-- ==== Sys2Proof/Word.lean ====
section
/-! DEFINITION. The words, indexes and data blocks of the LS3216 (00, Units and numbering). -/

namespace Sys2Proof

/-- One byte of a frame or of an entry image (10). -/
abbrev Byte := BitVec 8

/-- A request tag, manage tag or command tag as a frame carries it: 16 bits (R65, R134). -/
abbrev Tag := BitVec 16

/-- A block: 4096 bytes (00, Units). The first byte of the block is the most significant. -/
abbrev Block := BitVec 32768

/-- Node port number 0..31. -/
abbrev NodePort := Fin 32

/-- Disk port number 0..15. -/
abbrev DiskPort := Fin 16

/-- Volume handle 0..255. -/
abbrev Volume := Fin 256

/-- Lending map index 0..4095. -/
abbrev MapIdx := Fin 4096

/-- Loan table index 0..511. -/
abbrev LoanIdx := Fin 512

/-- A node's request slot 0..15. -/
abbrev SlotIdx := Fin 16

/-- Stage index 0..255. -/
abbrev StageIdx := Fin 256

/-- Lock table index 0..63. -/
abbrev LockIdx := Fin 64

/-- Service class 0..3, and the lane of that class. -/
abbrev Class := Fin 4

/-- Block index within a granule, 0..7. -/
abbrev BlockIdx := Fin 8

/-- The image of all 135 notice flags, bit n for flag n (10.3). -/
abbrev FlagImage := BitVec 135

/-- One of the 48 links: node links 0..31 and disk links 0..15 (03). -/
inductive Link where
  | node (n : NodePort)
  | disk (d : DiskPort)
  deriving DecidableEq, Repr

end Sys2Proof
end

