-- ==== Sys2Proof/Machine/Bytes.lean ====
section
/-! DEFINITION. Byte order, blocks as bytes, and the frame check (R187, R188). -/

namespace Sys2Proof.Machine

/-- `v` in `w` bytes, most significant byte first (R187). -/
def beBytes : Nat → Nat → List Byte
  | 0, _ => []
  | w + 1, v => BitVec.ofNat 8 (v >>> (8 * w)) :: beBytes w v

/-- The number that bytes stand for, most significant byte first (R187). -/
def ofBytes (bs : List Byte) : Nat := bs.foldl (fun acc b => acc * 256 + b.toNat) 0

/-- The number in the `w` bytes at offset `off` of a layout (10). -/
def field (bs : List Byte) (off w : Nat) : Nat := ofBytes ((bs.drop off).take w)

/-- A yes/no field carries 0 for no and 1 for yes (R187). -/
def boolByte (b : Bool) : Byte := if b then 1 else 0

/-- The yes/no field at an offset, none for a code out of range (R187). -/
def boolField (bs : List Byte) (off : Nat) : Option Bool :=
  match field bs off 1 with
  | 0 => some false
  | 1 => some true
  | _ => none

/-- The 4096 bytes of a block. -/
def blockBytes (b : Block) : List Byte := beBytes 4096 b.toNat

/-- The block that 4096 bytes make. -/
def blockOfBytes (bs : List Byte) : Block := BitVec.ofNat 32768 (ofBytes bs)

/-- The whole blocks among carried bytes, 4096 bytes at a time (R189). -/
def blocksOfBytes (bs : List Byte) : List Block :=
  (List.range (bs.length / 4096)).map fun k => blockOfBytes ((bs.drop (4096 * k)).take 4096)

/-- The 17 bytes of a flag image: flag n is the bit of value 2^(n mod 8) of byte n div 8 (10.3). -/
def flagImageBytes (f : FlagImage) : List Byte :=
  (List.range 17).map fun k => BitVec.ofNat 8 (f.toNat >>> (8 * k))

/-- The flag image of 17 bytes; bit 135 is unused (10.3). -/
def flagImageOfBytes (bs : List Byte) : FlagImage := BitVec.ofNat 135 (ofBytes bs.reverse)

/-- One bit into the check register, generator 04C11DB7h (R188). -/
def crcBit (r : BitVec 32) (b : Bool) : BitVec 32 :=
  if r.msb != b then (r <<< 1) ^^^ 0x04C11DB7 else r <<< 1

/-- One byte into the check register, least significant bit first (R188). -/
def crcByte (r : BitVec 32) (b : Byte) : BitVec 32 :=
  (List.range 8).foldl (fun r k => crcBit r (b.getLsbD k)) r

/-- The frame check of bytes: initial FFFFFFFFh, the final register bit-reversed and inverted (R188). -/
def frameCheck (bs : List Byte) : BitVec 32 := (bs.foldl crcByte 0xFFFFFFFF).reverse ^^^ 0xFFFFFFFF

/-- A frame's fields with the frame check behind them (10). -/
def withCheck (body : List Byte) : List Byte := body ++ beBytes 4 (frameCheck body).toNat

end Sys2Proof.Machine
end

