-- ==== Sys2Proof/Machine/Forms.lean ====
section
/-! DEFINITION. The forms of the frames the part receives: fixed lengths, the operands of MANAGE operations,
and which MANAGE frames no operation serves (10.1, 10.3, R171, R189). -/

namespace Sys2Proof.Machine

/-- Fixed length of a node frame of a known kind, the frame check not counted (10.1); none for an unknown kind (R50). -/
def nodeFixedLength : Nat → Option Nat
  | 0x20 => some 1
  | 0x21 => some 12
  | 0x22 => some 2
  | 0x23 => some 4
  | _ => none

/-- Fixed length of a frame from a disk of a known kind (10.1); none for an unknown kind (R51). -/
def diskFixedLength : Nat → Option Nat
  | 0x60 => some 1
  | 0x61 => some 8
  | 0x62 => some 4
  | 0x63 => some 4
  | 0x64 => some 4100
  | 0x65 => some 4
  | 0x66 => some 1
  | 0x67 => some 1
  | _ => none

/-- How many operand bytes an operation needs, the entry image of WRITE ENTRY not counted (10.3, check 2 of R171);
none for an unknown operation. -/
def operandBytes : Nat → Option Nat
  | 1 => some 4
  | 2 => some 4
  | 3 => some 6
  | 4 => some 2
  | 5 => some 2
  | 6 => some 17
  | 7 => some 0
  | 8 => some 2
  | _ => none

/-- The MANAGE frame names an operation, carries its operands, and names a known table (READ ENTRY, WRITE ENTRY) or
port kind (RESTART PORT): it passes checks 2 and 3 of R171. -/
def servable (operation : Byte) (operands : List Byte) : Bool :=
  match operandBytes operation.toNat with
  | none => false
  | some n =>
    decide (n ≤ operands.length) &&
      (!(operation == 1 || operation == 2) || decide (field operands 0 1 ≤ 13)) &&
      (!(operation == 8) || decide (field operands 0 1 ≤ 1))

end Sys2Proof.Machine
end

