-- ==== Sys2Proof/Syntax.lean ====
section
/-! DEFINITION. The commands: one constructor for each row of spec/opcode_table.json. A frame's command
carries the fields of the frame (R65, 10.2, 10.3, 10.5); the part's own steps carry the index of the
record they concern. -/

namespace Sys2Proof

/-- The fields of a REQUEST frame (10.2). Codes and counts stand as received; admission judges them (R70).
`blocks` are the whole carried blocks, `partialBytes` the bytes of a last, incomplete block (R189). -/
structure RequestFrame where
  kind : Byte
  tag : Tag
  volume : Volume
  hint : Byte
  length : Byte
  offset : BitVec 32
  blocks : List Block
  partialBytes : Nat
  deriving DecidableEq, Repr

/-- What every MANAGE frame has: the node port it came in on and its manage tag (R65). `handedOn` says that
the link block took the frame in an earlier step and this step only serves it (R50, R57; log entry 6). -/
structure ManageHeader where
  port : NodePort
  tag : Tag
  handedOn : Bool
  deriving DecidableEq, Repr

/-- The six wholly read-only tables (R173). -/
inductive ReadOnlyTable where
  | loan | tally | stage | lock | lockout | request
  deriving DecidableEq, Repr

/-- The commands of the block. -/
inductive Instr where
  /-- Power-on (R47). -/
  | powerOn
  /-- A frame whose frame check fails (R48). -/
  | damagedFrame (l : Link)
  /-- A good frame of unknown kind, or too short for its kind (R50, R51). -/
  | unknownKindFrame (l : Link)
  /-- A good IDLE frame on a node link (R49). -/
  | idle (n : NodePort)
  /-- A good IDLE frame on a disk link (R51). -/
  | diskIdle (d : DiskPort)
  /-- A REQUEST frame (R70). -/
  | request (n : NodePort) (f : RequestFrame)
  /-- A RENEW frame (R39). -/
  | renew (n : NodePort) (v : Volume)
  /-- A disk's HELLO with its capacity in granules (R133). -/
  | hello (d : DiskPort) (capacity : BitVec 32)
  /-- A disk's ACCEPT (R139). -/
  | accept (d : DiskPort) (tag : Tag)
  /-- A disk's NAK (R140). -/
  | nak (d : DiskPort) (tag : Tag)
  /-- A disk's DATA reply (R117). -/
  | diskData (d : DiskPort) (index : Byte) (tag : Tag) (block : Block)
  /-- A disk's DONE with result 0 (R120). -/
  | diskDoneOk (d : DiskPort) (tag : Tag)
  /-- A disk's DONE with another result (R119). -/
  | diskDoneError (d : DiskPort) (result : Byte) (tag : Tag)
  /-- A disk's HOLD (R142). -/
  | hold (d : DiskPort)
  /-- A disk's RELEASE (R143). -/
  | release (d : DiskPort)
  /-- A link-loss indication of a link's receiver (R54). -/
  | linkLossIndication (l : Link)
  /-- A link finishes sending a frame (R59). -/
  | frameSent (l : Link)
  /-- An expiry of the port clock (R52). -/
  | portClockExpiry
  /-- The step of a begun port clock expiry at a link near its silence limit (R53). -/
  | silenceLimit (l : Link)
  /-- An expiry of the meter clock (R91). -/
  | meterClockExpiry
  /-- An expiry of the lending clock (R33). -/
  | lendingClockExpiry
  /-- The step of a begun lending clock expiry at a loan it does not lapse (R35). -/
  | loanDue (i : LoanIdx)
  /-- The step of a begun lending clock expiry at a loan it lapses (R36). -/
  | lapse (i : LoanIdx)
  /-- The step of a begun lending clock expiry at a lock near its hold limit (R160). -/
  | holdLimit (k : LockIdx)
  /-- The step of a begun lending clock expiry at the lockout timer (R166). -/
  | lockoutTimer
  /-- The step of a begun lending clock expiry at the tally period (R101). -/
  | tallyPeriodEnd
  /-- An expiry of the disk clock (R145). -/
  | diskClockExpiry
  /-- The step of a begun disk clock expiry at a stage that is SENT or RETRYING (R146). -/
  | retryTimeout (i : StageIdx)
  /-- The step of a begun disk clock expiry at a stage that is ACCEPTED or STREAMING (R146). -/
  | responseTimeout (i : StageIdx)
  /-- One admission attempt for a node's head (R74). -/
  | admissionAttempt (n : NodePort)
  /-- One pass of the stage-pool arbiter (R111). -/
  | arbiterPass
  /-- One send of the dispatch block to a disk (R136, R137). -/
  | send (d : DiskPort)
  /-- READ ENTRY of table SETTINGS (R175). -/
  | readEntrySettings (h : ManageHeader) (index : BitVec 16)
  /-- READ ENTRY of table PORT (R63). -/
  | readEntryPort (h : ManageHeader) (index : BitVec 16)
  /-- READ ENTRY of table DISK (R132). -/
  | readEntryDisk (h : ManageHeader) (index : BitVec 16)
  /-- READ ENTRY of table VOLUME (R2, R190). -/
  | readEntryVolume (h : ManageHeader) (index : BitVec 16)
  /-- READ ENTRY of table MAP (R22). -/
  | readEntryMap (h : ManageHeader) (index : BitVec 16)
  /-- READ ENTRY of table LOAN (R26). -/
  | readEntryLoan (h : ManageHeader) (index : BitVec 16)
  /-- READ ENTRY of table CLASSMAP (R177). -/
  | readEntryClassmap (h : ManageHeader) (index : BitVec 16)
  /-- READ ENTRY of table METER (R97). -/
  | readEntryMeter (h : ManageHeader) (index : BitVec 16)
  /-- READ ENTRY of table TALLY (R102). -/
  | readEntryTally (h : ManageHeader) (index : BitVec 16)
  /-- READ ENTRY of table STAGE (R107). -/
  | readEntryStage (h : ManageHeader) (index : BitVec 16)
  /-- READ ENTRY of table LOCK (R154). -/
  | readEntryLock (h : ManageHeader) (index : BitVec 16)
  /-- READ ENTRY of table LOCKOUT (R169). -/
  | readEntryLockout (h : ManageHeader) (index : BitVec 16)
  /-- READ ENTRY of table REQUEST (R69). -/
  | readEntryRequest (h : ManageHeader) (index : BitVec 16)
  /-- READ ENTRY of table NOTICE (R180). -/
  | readEntryNotice (h : ManageHeader) (index : BitVec 16)
  /-- WRITE ENTRY of table SETTINGS (R175). -/
  | writeEntrySettings (h : ManageHeader) (index : BitVec 16) (image : List Byte)
  /-- WRITE ENTRY of table PORT (R63). -/
  | writeEntryPort (h : ManageHeader) (index : BitVec 16) (image : List Byte)
  /-- WRITE ENTRY of table DISK (R132). -/
  | writeEntryDisk (h : ManageHeader) (index : BitVec 16) (image : List Byte)
  /-- WRITE ENTRY of table VOLUME (R2). -/
  | writeEntryVolume (h : ManageHeader) (index : BitVec 16) (image : List Byte)
  /-- WRITE ENTRY of table MAP (R7, R8). -/
  | writeEntryMap (h : ManageHeader) (index : BitVec 16) (image : List Byte)
  /-- WRITE ENTRY of table CLASSMAP (R177). -/
  | writeEntryClassmap (h : ManageHeader) (index : BitVec 16) (image : List Byte)
  /-- WRITE ENTRY of table METER (R97). -/
  | writeEntryMeter (h : ManageHeader) (index : BitVec 16) (image : List Byte)
  /-- WRITE ENTRY of table NOTICE (R180). -/
  | writeEntryNotice (h : ManageHeader) (index : BitVec 16) (image : List Byte)
  /-- WRITE ENTRY of a wholly read-only table (R173). -/
  | writeEntryReadOnly (h : ManageHeader) (table : ReadOnlyTable) (index : BitVec 16) (image : List Byte)
  /-- GRANT LOAN: volume, node, mode, term as received (R29). -/
  | grantLoan (h : ManageHeader) (v : Volume) (node : Byte) (mode : Byte) (term : BitVec 16)
  /-- REVOKE LOAN (R41). -/
  | revokeLoan (h : ManageHeader) (index : BitVec 16)
  /-- BREAK LOCK (R161). -/
  | breakLock (h : ManageHeader) (index : BitVec 16)
  /-- CLEAR NOTICES with its selection (R181). -/
  | clearNotices (h : ManageHeader) (selection : FlagImage)
  /-- RESTART PART (R183). -/
  | restartPart (h : ManageHeader)
  /-- RESTART PORT of kind NODE (R185). -/
  | restartPortNode (h : ManageHeader) (port : Byte)
  /-- RESTART PORT of kind DISK (R185). -/
  | restartPortDisk (h : ManageHeader) (port : Byte)
  /-- A MANAGE frame that checks 2 and 3 of R171 refuse: an unknown operation, operands too short, an
  unknown port kind, or an unknown table. -/
  | manageUnknownOperation (h : ManageHeader) (operation : Byte) (operands : List Byte)
  deriving DecidableEq, Repr

end Sys2Proof
end

