-- ==== Sys2Proof/Decode.lean ====
section
/-! DEFINITION. From what arrives to a command: the word of a table row, and the bytes of a whole frame on a link
(R48 to R51, R65, R187 to R189, 10.1 to 10.5). -/

namespace Sys2Proof

/-- The command a table word spells: spec/opcode_table.json gives its rows no bits, so none (log entry 24). -/
def decodeTableWord (_ _ : Nat) : Option Instr := none

namespace Machine

/-- READ ENTRY of a table by its code (10.3); an unknown table is refused at check 3 of R171. -/
def readCommand (h : ManageHeader) (table : Nat) (index : BitVec 16) (operands : List Byte) : Instr :=
  match table with
  | 0 => .readEntrySettings h index
  | 1 => .readEntryPort h index
  | 2 => .readEntryDisk h index
  | 3 => .readEntryVolume h index
  | 4 => .readEntryMap h index
  | 5 => .readEntryLoan h index
  | 6 => .readEntryClassmap h index
  | 7 => .readEntryMeter h index
  | 8 => .readEntryTally h index
  | 9 => .readEntryStage h index
  | 10 => .readEntryLock h index
  | 11 => .readEntryLockout h index
  | 12 => .readEntryRequest h index
  | 13 => .readEntryNotice h index
  | _ => .manageUnknownOperation h 1 operands

/-- WRITE ENTRY of a table by its code; every byte behind the index is the entry image (10.3, R189). -/
def writeCommand (h : ManageHeader) (table : Nat) (index : BitVec 16) (operands : List Byte) : Instr :=
  let image := operands.drop 4
  match table with
  | 0 => .writeEntrySettings h index image
  | 1 => .writeEntryPort h index image
  | 2 => .writeEntryDisk h index image
  | 3 => .writeEntryVolume h index image
  | 4 => .writeEntryMap h index image
  | 5 => .writeEntryReadOnly h .loan index image
  | 6 => .writeEntryClassmap h index image
  | 7 => .writeEntryMeter h index image
  | 8 => .writeEntryReadOnly h .tally index image
  | 9 => .writeEntryReadOnly h .stage index image
  | 10 => .writeEntryReadOnly h .lock index image
  | 11 => .writeEntryReadOnly h .lockout index image
  | 12 => .writeEntryReadOnly h .request index image
  | 13 => .writeEntryNotice h index image
  | _ => .manageUnknownOperation h 2 operands

/-- A MANAGE frame that passes checks 2 and 3 of R171, by its operation (10.3). Operands beyond what the operation
needs are ignored (R189). -/
def servedCommand (h : ManageHeader) (operation : Byte) (operands : List Byte) : Instr :=
  match operation.toNat with
  | 1 => readCommand h (field operands 0 1) (BitVec.ofNat 16 (field operands 2 2)) operands
  | 2 => writeCommand h (field operands 0 1) (BitVec.ofNat 16 (field operands 2 2)) operands
  | 3 =>
    .grantLoan h (Fin.ofNat 256 (field operands 0 1)) (BitVec.ofNat 8 (field operands 1 1))
      (BitVec.ofNat 8 (field operands 2 1)) (BitVec.ofNat 16 (field operands 4 2))
  | 4 => .revokeLoan h (BitVec.ofNat 16 (field operands 0 2))
  | 5 => .breakLock h (BitVec.ofNat 16 (field operands 0 2))
  | 6 => .clearNotices h (flagImageOfBytes (operands.take 17))
  | 7 => .restartPart h
  | 8 =>
    if field operands 0 1 = 0 then .restartPortNode h (BitVec.ofNat 8 (field operands 1 1))
    else .restartPortDisk h (BitVec.ofNat 8 (field operands 1 1))
  | _ => .manageUnknownOperation h operation operands

/-- The command of a MANAGE frame with its fixed fields complete (R171). -/
def manageCommand (h : ManageHeader) (operation : Byte) (operands : List Byte) : Instr :=
  if servable operation operands then servedCommand h operation operands
  else .manageUnknownOperation h operation operands

/-- The fields of a REQUEST (10.2); the bytes behind the 12 fixed ones are its carried blocks (R189). -/
def requestOf (b : List Byte) : RequestFrame :=
  { kind := BitVec.ofNat 8 (field b 1 1), tag := BitVec.ofNat 16 (field b 2 2),
    volume := Fin.ofNat 256 (field b 4 1), hint := BitVec.ofNat 8 (field b 5 1),
    length := BitVec.ofNat 8 (field b 6 1), offset := BitVec.ofNat 32 (field b 8 4),
    blocks := blocksOfBytes (b.drop 12), partialBytes := (b.length - 12) % 4096 }

/-- A good frame on a node link, without its frame check, by its kind (R50, 10.2, 10.3). -/
def nodeCommand (n : NodePort) (b : List Byte) : Instr :=
  match nodeFixedLength (field b 0 1) with
  | none => .unknownKindFrame (.node n)
  | some len =>
    if b.length < len then .unknownKindFrame (.node n)
    else
      match field b 0 1 with
      | 0x20 => .idle n
      | 0x21 => .request n (requestOf b)
      | 0x22 => .renew n (Fin.ofNat 256 (field b 1 1))
      | 0x23 =>
        manageCommand { port := n, tag := BitVec.ofNat 16 (field b 2 2), handedOn := false }
          (BitVec.ofNat 8 (field b 1 1)) (b.drop 4)
      | _ => .unknownKindFrame (.node n)

/-- The command tag of a disk's reply (10.5). -/
def replyTag (b : List Byte) : Tag := BitVec.ofNat 16 (field b 2 2)

/-- A disk's DONE by its result (10.5). -/
def doneCommand (d : DiskPort) (b : List Byte) : Instr :=
  if field b 1 1 = 0 then .diskDoneOk d (replyTag b)
  else .diskDoneError d (BitVec.ofNat 8 (field b 1 1)) (replyTag b)

/-- A good frame on a disk link, without its frame check, by its kind (R51, 10.5). -/
def diskCommand (d : DiskPort) (b : List Byte) : Instr :=
  match diskFixedLength (field b 0 1) with
  | none => .unknownKindFrame (.disk d)
  | some len =>
    if b.length < len then .unknownKindFrame (.disk d)
    else
      match field b 0 1 with
      | 0x60 => .diskIdle d
      | 0x61 => .hello d (BitVec.ofNat 32 (field b 4 4))
      | 0x62 => .accept d (replyTag b)
      | 0x63 => .nak d (replyTag b)
      | 0x64 =>
        .diskData d (BitVec.ofNat 8 (field b 1 1)) (replyTag b) (blockOfBytes ((b.drop 4).take 4096))
      | 0x65 => doneCommand d b
      | 0x66 => .hold d
      | 0x67 => .release d
      | _ => .unknownKindFrame (.disk d)

/-- A good frame on a link, without its frame check. -/
def goodCommand (l : Link) (b : List Byte) : Instr :=
  match l with
  | .node n => nodeCommand n b
  | .disk d => diskCommand d b

/-- The frame check passes: the last four bytes are the check over the bytes before them (R188). A frame shorter
than its check has none that passes (log entry 17). -/
def checkPasses (bytes : List Byte) : Bool :=
  decide (4 ≤ bytes.length) &&
    (frameCheck (bytes.take (bytes.length - 4))).toNat == ofBytes (bytes.drop (bytes.length - 4))

/-- The command of a frame that has arrived whole on a link (R48 to R51). -/
def commandOfFrame (l : Link) (bytes : List Byte) : Instr :=
  if checkPasses bytes then goodCommand l (bytes.take (bytes.length - 4)) else .damagedFrame l

/-! ## The frames that carry commands

Not asked of a block; they let a statement say that no field of a received frame is dropped. -/

/-- A REQUEST frame's bytes, without its check; the incomplete block is sent as zero bytes (10.2). -/
def requestBody (f : RequestFrame) : List Byte :=
  beBytes 1 0x21 ++ [f.kind] ++ beBytes 2 f.tag.toNat ++ beBytes 1 f.volume.val ++ [f.hint] ++ [f.length] ++
    beBytes 1 0 ++ beBytes 4 f.offset.toNat ++ (f.blocks.map blockBytes).flatten ++ beBytes f.partialBytes 0

/-- A MANAGE frame's bytes, without its check (10.3). -/
def manageBody (h : ManageHeader) (operation : Byte) (operands : List Byte) : List Byte :=
  beBytes 1 0x23 ++ [operation] ++ beBytes 2 h.tag.toNat ++ operands

/-- READ ENTRY's bytes (10.3). -/
def readBody (h : ManageHeader) (table : Nat) (index : BitVec 16) : List Byte :=
  manageBody h 1 (beBytes 1 table ++ beBytes 1 0 ++ beBytes 2 index.toNat)

/-- WRITE ENTRY's bytes (10.3). -/
def writeBody (h : ManageHeader) (table : Nat) (index : BitVec 16) (image : List Byte) : List Byte :=
  manageBody h 2 (beBytes 1 table ++ beBytes 1 0 ++ beBytes 2 index.toNat ++ image)

/-- The code of a wholly read-only table (10.3). -/
def readOnlyCode : ReadOnlyTable → Nat
  | .loan => 5
  | .tally => 8
  | .stage => 9
  | .lock => 10
  | .lockout => 11
  | .request => 12

/-- A reply's bytes: kind, reserved or other byte, command tag (10.5). -/
def replyBody (kind second : Nat) (tag : Tag) : List Byte := beBytes 1 kind ++ beBytes 1 second ++ beBytes 2 tag.toNat

/-- The link and the bytes, without the frame check, of the frame that carries a command; none for a command that is
no good frame of a kind, and for a MANAGE frame that an earlier step took (10.1 to 10.5). -/
def frameBody : Instr → Option (Link × List Byte)
  | .idle n => some (.node n, beBytes 1 0x20)
  | .request n f => some (.node n, requestBody f)
  | .renew n v => some (.node n, beBytes 1 0x22 ++ beBytes 1 v.val)
  | .diskIdle d => some (.disk d, beBytes 1 0x60)
  | .hello d capacity => some (.disk d, beBytes 1 0x61 ++ beBytes 3 0 ++ beBytes 4 capacity.toNat)
  | .accept d tag => some (.disk d, replyBody 0x62 0 tag)
  | .nak d tag => some (.disk d, replyBody 0x63 0 tag)
  | .diskData d index tag block => some (.disk d, replyBody 0x64 index.toNat tag ++ blockBytes block)
  | .diskDoneOk d tag => some (.disk d, replyBody 0x65 0 tag)
  | .diskDoneError d result tag => some (.disk d, replyBody 0x65 result.toNat tag)
  | .hold d => some (.disk d, beBytes 1 0x66)
  | .release d => some (.disk d, beBytes 1 0x67)
  | .readEntrySettings h i => some (.node h.port, readBody h 0 i)
  | .readEntryPort h i => some (.node h.port, readBody h 1 i)
  | .readEntryDisk h i => some (.node h.port, readBody h 2 i)
  | .readEntryVolume h i => some (.node h.port, readBody h 3 i)
  | .readEntryMap h i => some (.node h.port, readBody h 4 i)
  | .readEntryLoan h i => some (.node h.port, readBody h 5 i)
  | .readEntryClassmap h i => some (.node h.port, readBody h 6 i)
  | .readEntryMeter h i => some (.node h.port, readBody h 7 i)
  | .readEntryTally h i => some (.node h.port, readBody h 8 i)
  | .readEntryStage h i => some (.node h.port, readBody h 9 i)
  | .readEntryLock h i => some (.node h.port, readBody h 10 i)
  | .readEntryLockout h i => some (.node h.port, readBody h 11 i)
  | .readEntryRequest h i => some (.node h.port, readBody h 12 i)
  | .readEntryNotice h i => some (.node h.port, readBody h 13 i)
  | .writeEntrySettings h i b => some (.node h.port, writeBody h 0 i b)
  | .writeEntryPort h i b => some (.node h.port, writeBody h 1 i b)
  | .writeEntryDisk h i b => some (.node h.port, writeBody h 2 i b)
  | .writeEntryVolume h i b => some (.node h.port, writeBody h 3 i b)
  | .writeEntryMap h i b => some (.node h.port, writeBody h 4 i b)
  | .writeEntryClassmap h i b => some (.node h.port, writeBody h 6 i b)
  | .writeEntryMeter h i b => some (.node h.port, writeBody h 7 i b)
  | .writeEntryNotice h i b => some (.node h.port, writeBody h 13 i b)
  | .writeEntryReadOnly h t i b => some (.node h.port, writeBody h (readOnlyCode t) i b)
  | .grantLoan h v node mode term =>
    some (.node h.port, manageBody h 3 (beBytes 1 v.val ++ [node] ++ [mode] ++ beBytes 1 0 ++ beBytes 2 term.toNat))
  | .revokeLoan h i => some (.node h.port, manageBody h 4 (beBytes 2 i.toNat))
  | .breakLock h i => some (.node h.port, manageBody h 5 (beBytes 2 i.toNat))
  | .clearNotices h sel => some (.node h.port, manageBody h 6 (flagImageBytes sel))
  | .restartPart h => some (.node h.port, manageBody h 7 [])
  | .restartPortNode h port => some (.node h.port, manageBody h 8 (beBytes 1 0 ++ [port]))
  | .restartPortDisk h port => some (.node h.port, manageBody h 8 (beBytes 1 1 ++ [port]))
  | .manageUnknownOperation h operation operands => some (.node h.port, manageBody h operation operands)
  | .powerOn | .damagedFrame _ | .unknownKindFrame _ | .linkLossIndication _ | .frameSent _ | .portClockExpiry
  | .silenceLimit _ | .meterClockExpiry | .lendingClockExpiry | .loanDue _ | .lapse _ | .holdLimit _
  | .lockoutTimer | .tallyPeriodEnd | .diskClockExpiry | .retryTimeout _ | .responseTimeout _
  | .admissionAttempt _ | .arbiterPass | .send _ => none

end Machine

end Sys2Proof
end

