-- ==== Sys2Proof/Config.lean ====
section
/-! DEFINITION. What the part fixes for good, and the free values: what the spec leaves open and the
model leaves open with it. -/

namespace Sys2Proof

/-- The read/write fields of one lending map entry (1.2). The disk list is kept byte for byte (R7). -/
structure Machine.Extent where
  valid : Bool
  volume : Volume
  /-- volume base granule b -/
  base : Nat
  length : Nat
  /-- stripe unit u -/
  unit : Nat
  /-- stripe width w -/
  width : Nat
  /-- disk list D, slots 0..7 -/
  disks : Vector Byte 8
  /-- disk base granule d -/
  diskBase : Nat
  deriving DecidableEq, Repr

/-- One disturbance of a stored map entry (1.6): which entry, what its stored fields then are, and
whether its check code can still recover the original fields. -/
structure Machine.Disturbance where
  entry : MapIdx
  fields : Machine.Extent
  recoverable : Bool
  deriving DecidableEq, Repr

/-- Free value (DESIGN CHOICE, log entry 3): whether the n-th draw disturbs a stored map entry, and how.
"The stored form can be disturbed after it was written, and the part does not control when." -/
opaque Config.disturbance : Nat → Option Machine.Disturbance

/-- Free value (log entry 5): whether, at the n-th draw, the link that goes DOWN has begun to send the
frame at the head of its list (R61). -/
opaque Config.headBegun : Nat → Bool

/-- Vendor code 1C5Eh (R175). -/
def Config.vendorCode : Nat := 0x1C5E

/-- Part code 3216h (R175). -/
def Config.partCode : Nat := 0x3216

/-- Revision 01h (R175). -/
def Config.revision : Nat := 0x01

/-- Blocks in the write data pool (4.6). -/
def Config.poolBlocks : Nat := 4096

end Sys2Proof
end

