-- ==== Sys2Proof/Machine/State.lean ====
section
/-! DEFINITION. The state of the LS3216, block by block (00, Block diagram), the frames it sends, and the
state after power-on. -/

namespace Sys2Proof.Machine

/-! ## Named values -/

/-- State of a link (3.1). -/
inductive PortState where
  | down | up
  deriving DecidableEq, Repr

/-- Request kinds (R65). -/
inductive ReqKind where
  | read | write | lockread | unlockwrite
  deriving DecidableEq, Repr

/-- Loan modes (R27). -/
inductive LoanMode where
  | read | write | sharedUpdate
  deriving DecidableEq, Repr

/-- Loan states (2.1). -/
inductive LoanState where
  | free | active | due | lapsed | recalled
  deriving DecidableEq, Repr

/-- State of a request slot (4.1). -/
inductive SlotState where
  | free | waiting | admitted
  deriving DecidableEq, Repr

/-- What a head waits for (4.1). -/
inductive WaitFor where
  | none | credit | stages
  deriving DecidableEq, Repr

/-- Volume states (1.1). -/
inductive VolState where
  | online | frozen | offline
  deriving DecidableEq, Repr

/-- Outcomes of a map read (1.6). -/
inductive CheckOutcome where
  | clean | corrected | uncorrectable
  deriving DecidableEq, Repr

/-- Stage states (6.1). -/
inductive StageState where
  | free | queued | sent | accepted | streaming | retrying
  deriving DecidableEq, Repr

/-- Stage kinds (6.1). -/
inductive StageKind where
  | fetch | store
  deriving DecidableEq, Repr

/-- Disk states (7.1). -/
inductive DiskState where
  | absent | present
  deriving DecidableEq, Repr

/-- Lock states (8.1). -/
inductive LockState where
  | free | held
  deriving DecidableEq, Repr

/-- Disk clock scales (R144). -/
inductive Scale where
  | normal | short
  deriving DecidableEq, Repr

/-- Node-facing statuses, in code order (R67, 10.4). -/
inductive Status where
  | ok | malformed | busy | noVolume | noLoan | notPermitted | range | mapFault | diskLost | diskError
  | timeout | loanLapsed | loanRevoked | retry | lockHeld | lockLost | aborted
  deriving DecidableEq, Repr

/-- Management reply statuses, in code order (10.4). -/
inductive ReplyStatus where
  | ok | okCorrected | badTable | badIndex | badValue | readOnly | conflict | duplicate | tableFull
  | mapFault | notPermitted | notFound
  deriving DecidableEq, Repr

/-- Notice states of a LOAN NOTICE (R32). -/
inductive NoticeState where
  | active | due | lapsed | recalled | revoked | none
  deriving DecidableEq, Repr

/-- The fourteen tables (R173). -/
inductive Table where
  | settings | port | disk | volume | map | loan | classmap | meter | tally | stage | lock | lockout
  | request | notice
  deriving DecidableEq, Repr

/-- A notice flag: a member of one of six sets, or one of seven single flags (9.6). -/
inductive Flag where
  | nodeUp (n : NodePort) | nodeDown (n : NodePort)
  | diskUp (d : DiskPort) | diskDown (d : DiskPort) | diskTimeout (d : DiskPort) | diskError (d : DiskPort)
  | loanLapse | mapCorrected | mapFault | mapLoss | lockBroken | lockout | tallyReady
  deriving DecidableEq, Repr

/-! ## Frames the part sends (R60, R66) -/

/-- What a LOAN NOTICE tells of a loan (R32). -/
structure LoanDetail where
  index : LoanIdx
  mode : LoanMode
  term : Nat
  age : Nat
  deriving DecidableEq, Repr

/-- The frames for node links (R60, R66). -/
inductive NodeFrame where
  | idle
  | data (tag : Tag) (granule : Nat) (index : BlockIdx) (block : Block)
  | done (tag : Tag) (status : Status) (count : Nat)
  | loanNotice (v : Volume) (state : NoticeState) (loan : Option LoanDetail)
  | manageReply (tag : Tag) (operation : Byte) (status : ReplyStatus) (table : Byte) (index : BitVec 16)
      (image : List Byte)
  | notice (flag : Flag) (detail : Nat) (flags : FlagImage)
  deriving DecidableEq, Repr

/-- The frames for disk links (R60, R137, 10.5). -/
inductive DiskFrame where
  | idle
  | fetch (tag : Nat) (granule : Nat) (lead : Nat)
  | store (tag : Nat) (granule : Nat) (first : Nat) (count : Nat) (blocks : List Block)
  | drop
  deriving DecidableEq, Repr

/-! ## Link block (03) -/

/-- An interval clock: the length setting of the period now running, and how many expiries its present
phase has had (00, Clocks; log entry 13). -/
structure Clock where
  running : Nat
  expiries : Nat
  deriving DecidableEq, Repr

/-- A node port record with its outgoing list (3.1). -/
structure NodeLink where
  state : PortState
  manager : Bool
  ceiling : Class
  silence : Nat
  damaged : Nat
  /-- frames produced and not yet sent, in order of production (R59) -/
  out : List NodeFrame
  /-- a frame begun before the list was emptied, which the link finishes (R61) -/
  finishing : Option NodeFrame
  /-- a frame was produced for the link since the last port clock expiry (R62) -/
  produced : Bool
  /-- the link's step of a begun port clock expiry is still to be taken (log entry 2) -/
  owed : Bool
  deriving DecidableEq, Repr

/-- A disk link record with its outgoing list (3.1). -/
structure DiskLink where
  state : PortState
  silence : Nat
  damaged : Nat
  out : List DiskFrame
  finishing : Option DiskFrame
  produced : Bool
  owed : Bool
  deriving DecidableEq, Repr

structure LinkBlock where
  nodes : Vector NodeLink 32
  disks : Vector DiskLink 16
  clock : Clock
  /-- the silence limit as the last port clock expiry read it; owed steps are judged by it (R176; log entry 2) -/
  limitRead : Nat
  deriving DecidableEq, Repr

/-! ## Admission block (04) -/

/-- A request slot (4.1). -/
structure Slot where
  state : SlotState
  tag : Tag
  kind : ReqKind
  volume : Volume
  offset : Nat
  length : Nat
  cls : Class
  waitFor : WaitFor
  outstanding : Nat
  delivered : Nat
  held : Nat
  /-- the carried blocks of a WAITING write request, in frame order (R72) -/
  data : List Block
  deriving DecidableEq, Repr

/-- What admission keeps for one node: its 16 slots, its wait list, and how many admission attempts have
been started for its head and not yet been taken (R75; log entry 12). -/
structure Desk where
  slots : Vector Slot 16
  waitList : List SlotIdx
  attemptsDue : Nat
  deriving DecidableEq, Repr

structure AdmissionBlock where
  desks : Vector Desk 32
  deriving DecidableEq, Repr

/-! ## Lending block (01) -/

/-- A volume table entry (1.1). -/
structure VolumeEntry where
  state : VolState
  first : MapIdx
  extents : Nat
  lockoutEnable : Bool
  inFlight : Nat
  deriving DecidableEq, Repr

/-- What the check code of a stored entry makes of it: the fields agree with the code; they do not, and
the original fields can be recovered; or they cannot (1.6; log entry 4). -/
inductive Condition where
  | intact
  | recoverable (original : Extent)
  | lost
  deriving DecidableEq, Repr

/-- A lending map entry: fields as stored, what its check code finds, and the outcome of its last read. -/
structure MapEntry where
  stored : Extent
  condition : Condition
  outcome : CheckOutcome
  deriving DecidableEq, Repr

structure LendingBlock where
  volumes : Vector VolumeEntry 256
  map : Vector MapEntry 4096
  deriving DecidableEq, Repr

/-! ## Loan block (02) -/

/-- A loan table entry (2.1). -/
structure Loan where
  state : LoanState
  volume : Volume
  node : NodePort
  mode : LoanMode
  term : Nat
  age : Nat
  /-- the loan's step of a begun lending clock expiry is still to be taken (log entry 2) -/
  owed : Bool
  deriving DecidableEq, Repr

structure LoanBlock where
  loans : Vector Loan 512
  clock : Clock
  deriving DecidableEq, Repr

/-! ## Meter block (05) -/

/-- A meter (5.1). -/
structure Meter where
  whole : Nat
  fraction : Nat
  burst : Nat
  credit : Nat
  spread : Nat
  deriving DecidableEq, Repr

/-- A tally (5.5). -/
structure Tally where
  cumRead : Nat
  cumWritten : Nat
  perRead : Nat
  perWritten : Nat
  snapRead : Nat
  snapWritten : Nat
  ready : Bool
  overrun : Bool
  deriving DecidableEq, Repr

structure MeterBlock where
  meters : Vector Meter 32
  tallies : Vector Tally 32
  /-- lending clock expiries since the tally period began (5.5) -/
  periodCount : Nat
  /-- the tally period's step of a begun lending clock expiry is still to be taken (log entry 2) -/
  periodOwed : Bool
  /-- the tally period as the last lending clock expiry read it (R176; log entry 2) -/
  periodRead : Nat
  clock : Clock
  deriving DecidableEq, Repr

/-! ## Stage block (06) -/

/-- A waiter record (6.1). -/
structure Waiter where
  node : NodePort
  slot : SlotIdx
  granule : Nat
  first : Nat
  count : Nat
  delivered : Nat
  deriving DecidableEq, Repr

/-- The owner of a STORE: a node and its slot (6.1). -/
structure Owner where
  node : NodePort
  slot : SlotIdx
  deriving DecidableEq, Repr

/-- A stage (6.1). Whether it is the head of its chain is computed from `StageBlock.order` (R112). -/
structure Stage where
  state : StageState
  abandoned : Bool
  kind : StageKind
  disk : DiskPort
  granule : Nat
  generation : Nat
  tag : Nat
  cls : Class
  lead : Nat
  first : Nat
  count : Nat
  waiters : List Waiter
  owner : Option Owner
  arrived : Nat
  sendAge : Nat
  acceptAge : Nat
  /-- the 8-block buffer of a fetch -/
  buffer : Vector (Option Block) 8
  /-- the blocks of the write data pool that are named to a STORE, in ascending index order (R110) -/
  data : List Block
  /-- the stage's step of a begun disk clock expiry is still to be taken (log entry 2) -/
  owed : Bool
  deriving DecidableEq, Repr

structure StageBlock where
  table : Vector Stage 256
  /-- the stages that are not FREE, in the order of their creation: every granule chain is a part of it (R112) -/
  order : List StageIdx
  /-- the stage-pool arbiter's last-served node (R111) -/
  lastServed : NodePort
  /-- arbiter passes owed (R111; log entry 12) -/
  passesDue : Nat
  deriving DecidableEq, Repr

/-! ## Dispatch block (07) -/

/-- A disk record with its four lanes, front first (7.1, 7.3). -/
structure DiskRecord where
  state : DiskState
  held : Bool
  capacity : Nat
  depth : Nat
  lanes : Vector (List StageIdx) 4
  deriving DecidableEq, Repr

/-- The disk clock: the scale of the period now running and the expiries of its present phase (R144). -/
structure DiskClock where
  running : Scale
  expiries : Nat
  deriving DecidableEq, Repr

/-- The three settings by which a disk clock expiry judges timeouts (R146). -/
structure Timeouts where
  response : Nat
  retry : Nat
  disabled : Bool
  deriving DecidableEq, Repr

structure DispatchBlock where
  disks : Vector DiskRecord 16
  clock : DiskClock
  /-- the timeout settings as the last disk clock expiry read them (R146, R176; log entry 2) -/
  timeoutsRead : Timeouts
  deriving DecidableEq, Repr

/-! ## Lock block (08) -/

/-- A lock table entry (8.1). -/
structure Lock where
  state : LockState
  volume : Volume
  granule : Nat
  holder : NodePort
  age : Nat
  /-- the lock's step of a begun lending clock expiry is still to be taken (log entry 2) -/
  owed : Bool
  deriving DecidableEq, Repr

/-- A lockout claim (8.6). -/
structure Claim where
  node : NodePort
  volume : Volume
  granule : Nat
  deriving DecidableEq, Repr

/-- The active claim with its lockout timer (8.6). -/
structure ActiveClaim where
  claim : Claim
  timer : Nat
  deriving DecidableEq, Repr

structure LockBlock where
  locks : Vector Lock 64
  retry : Vector Nat 32
  active : Option ActiveClaim
  pendingClaims : List Claim
  /-- the timer's step of a begun lending clock expiry is still to be taken (log entry 2) -/
  timerOwed : Bool
  /-- the hold limit as the last lending clock expiry read it (R160, R176; log entry 2) -/
  limitRead : Nat
  deriving DecidableEq, Repr

/-! ## Management block (09) -/

/-- The writable settings (9.4). -/
structure Settings where
  portReload : Nat
  meterReload : Nat
  lendingReload : Nat
  scale : Scale
  silenceLimit : Nat
  holdLimit : Nat
  lockoutLimit : Nat
  lockoutTime : Nat
  tallyPeriod : Nat
  responseTimeout : Nat
  retryTimeout : Nat
  timeoutsDisabled : Bool
  deriving DecidableEq, Repr

/-- The timeout settings, as a disk clock expiry reads them (R146). -/
def Settings.timeouts (x : Settings) : Timeouts :=
  { response := x.responseTimeout, retry := x.retryTimeout, disabled := x.timeoutsDisabled }

structure ManagementBlock where
  settings : Settings
  classMap : Vector Class 8
  flags : FlagImage
  masks : FlagImage
  loanLapseDetail : Nat
  mapCorrectedDetail : Nat
  mapFaultDetail : Nat
  mapLossDetail : Nat
  deriving DecidableEq, Repr

/-! ## The whole part -/

/-- The state of the part, one field a block, with the commands that wait and the number of free values
drawn so far. -/
structure State where
  link : LinkBlock
  admission : AdmissionBlock
  lending : LendingBlock
  loan : LoanBlock
  meter : MeterBlock
  stages : StageBlock
  dispatch : DispatchBlock
  lock : LockBlock
  management : ManagementBlock
  /-- the commands that are waiting, first in first out -/
  pending : List Instr
  /-- how many free values have been drawn (log entries 3 and 5) -/
  draws : Nat
  deriving DecidableEq, Repr

/-- Why a step can stop with a fault: the spec gives the part no fault, so there is no constructor (log entry 21). -/
inductive Fault where
  deriving DecidableEq, Repr

/-- Why a command can be refused. -/
inductive Refusal where
  /-- Raised by `exec` for a command that has no meaning yet; safe. No arm raises it. -/
  | notModelled (mnemonic : String)
  deriving DecidableEq, Repr

/-! ## Power-on values -/

/-- Node port record at power-on (R47): port 0 alone carries the manager attribute. -/
def NodeLink.reset (manager : Bool) : NodeLink :=
  { state := .down, manager, ceiling := 3, silence := 0, damaged := 0, out := [], finishing := none,
    produced := false, owed := false }

/-- Disk link record at power-on (R47). -/
def DiskLink.reset : DiskLink :=
  { state := .down, silence := 0, damaged := 0, out := [], finishing := none, produced := false, owed := false }

/-- Request slot at power-on (R68). -/
def Slot.reset : Slot :=
  { state := .free, tag := 0, kind := .read, volume := 0, offset := 0, length := 1, cls := 0, waitFor := .none,
    outstanding := 0, delivered := 0, held := 0, data := [] }

def Desk.reset : Desk := { slots := Vector.replicate 16 Slot.reset, waitList := [], attemptsDue := 0 }

/-- Volume entry at power-on (R1). -/
def VolumeEntry.reset : VolumeEntry :=
  { state := .offline, first := 0, extents := 0, lockoutEnable := false, inFlight := 0 }

/-- Map fields at power-on (1.2). -/
def extentReset : Extent :=
  { valid := false, volume := 0, base := 0, length := 1, unit := 1, width := 1, disks := Vector.replicate 8 0,
    diskBase := 0 }

/-- Map entry at power-on: a freshly computed check code, so its first read yields CLEAN (R6). -/
def MapEntry.reset : MapEntry := { stored := extentReset, condition := .intact, outcome := .clean }

/-- Loan entry at power-on (R25). -/
def Loan.reset : Loan :=
  { state := .free, volume := 0, node := 0, mode := .read, term := 0, age := 0, owed := false }

/-- Meter at power-on (R90). -/
def Meter.reset : Meter := { whole := 0, fraction := 0, burst := 1024, credit := 1024, spread := 0 }

/-- Tally at power-on (R104). -/
def Tally.reset : Tally :=
  { cumRead := 0, cumWritten := 0, perRead := 0, perWritten := 0, snapRead := 0, snapWritten := 0, ready := false,
    overrun := false }

/-- Stage at power-on (R106). -/
def Stage.reset : Stage :=
  { state := .free, abandoned := false, kind := .fetch, disk := 0, granule := 0, generation := 0, tag := 0, cls := 0,
    lead := 0, first := 0, count := 0, waiters := [], owner := none, arrived := 0, sendAge := 0, acceptAge := 0,
    buffer := Vector.replicate 8 none, data := [], owed := false }

/-- Disk record at power-on (R131). -/
def DiskRecord.reset : DiskRecord :=
  { state := .absent, held := false, capacity := 0, depth := 4, lanes := Vector.replicate 4 [] }

/-- Lock entry at power-on (R153). -/
def Lock.reset : Lock := { state := .free, volume := 0, granule := 0, holder := 0, age := 0, owed := false }

/-- Settings at power-on (9.4). -/
def Settings.reset : Settings :=
  { portReload := 9, meterReload := 99, lendingReload := 999, scale := .normal, silenceLimit := 50, holdLimit := 5,
    lockoutLimit := 6, lockoutTime := 3, tallyPeriod := 10, responseTimeout := 12, retryTimeout := 15,
    timeoutsDisabled := false }

/-- Notice masks at power-on (9.1): the NODE_DOWN and DISK_DOWN members, MAP_FAULT, MAP_LOSS and LOCK_BROKEN. -/
def masksReset : FlagImage :=
  BitVec.ofNat 135 ((2 ^ 32 - 1) * 2 ^ 32 + (2 ^ 16 - 1) * 2 ^ 80 + 2 ^ 130 + 2 ^ 131 + 2 ^ 132)

/-- Management block at power-on (R170). -/
def ManagementBlock.reset : ManagementBlock :=
  { settings := Settings.reset, classMap := #v[0, 1, 1, 1, 2, 2, 2, 3], flags := 0, masks := masksReset,
    loanLapseDetail := 0, mapCorrectedDetail := 0, mapFaultDetail := 0, mapLossDetail := 0 }

/-- The part right after power-on (R1, R6, R25, R47, R68, R90, R104, R106, R131, R153, R169, R170). -/
def State.reset : State :=
  { link :=
      { nodes := (Vector.replicate 32 (NodeLink.reset false)).set 0 (NodeLink.reset true),
        disks := Vector.replicate 16 DiskLink.reset, clock := { running := 9, expiries := 0 },
        limitRead := Settings.reset.silenceLimit },
    admission := { desks := Vector.replicate 32 Desk.reset },
    lending := { volumes := Vector.replicate 256 VolumeEntry.reset, map := Vector.replicate 4096 MapEntry.reset },
    loan := { loans := Vector.replicate 512 Loan.reset, clock := { running := 999, expiries := 0 } },
    meter :=
      { meters := Vector.replicate 32 Meter.reset, tallies := Vector.replicate 32 Tally.reset, periodCount := 0,
        periodOwed := false, periodRead := Settings.reset.tallyPeriod, clock := { running := 99, expiries := 0 } },
    stages := { table := Vector.replicate 256 Stage.reset, order := [], lastServed := 31, passesDue := 0 },
    dispatch := { disks := Vector.replicate 16 DiskRecord.reset, clock := { running := .normal, expiries := 0 },
                  timeoutsRead := Settings.reset.timeouts },
    lock :=
      { locks := Vector.replicate 64 Lock.reset, retry := Vector.replicate 32 0, active := none, pendingClaims := [],
        timerOwed := false, limitRead := Settings.reset.holdLimit },
    management := ManagementBlock.reset, pending := [], draws := 0 }

end Sys2Proof.Machine
end

