-- ==== Sys2Proof/Machine/Table.lean ====
section
/-! DEFINITION. Searching, counting and updating the part's tables, entry 0 first. -/

namespace Sys2Proof.Machine

/-- The lowest-numbered entry with a property. -/
def tableFind {α : Type} {n : Nat} (v : Vector α n) (p : α → Bool) : Option (Fin n) :=
  (v.toList.findFinIdx? p).map (Fin.cast (by simp))

/-- The numbers of the entries with a property, ascending. -/
def tableFilter {α : Type} {n : Nat} (v : Vector α n) (p : α → Bool) : List (Fin n) :=
  v.toList.zipIdx.filterMap fun x => if p x.1 then (if h : x.2 < n then some ⟨x.2, h⟩ else none) else none

/-- Every entry updated by itself. -/
def tableMap {α β : Type} {n : Nat} (f : α → β) (v : Vector α n) : Vector β n := ⟨⟨v.toList.map f⟩, by simp⟩

/-- How many entries have a property. -/
def tableCount {α : Type} {n : Nat} (v : Vector α n) (p : α → Bool) : Nat := v.toList.countP p

/-- The sum of a number over the entries. -/
def tableSum {α : Type} {n : Nat} (v : Vector α n) (f : α → Nat) : Nat := (v.toList.map f).sum

/-- Whether some entry has a property. -/
def tableAny {α : Type} {n : Nat} (v : Vector α n) (p : α → Bool) : Bool := v.toList.any p

end Sys2Proof.Machine
end

