-- ==== Sys2Proof/Machine/Ops.lean ====
section
/-! DEFINITION. Reading and writing the records of the part, the counts the spec computes from them, and
the production of frames. -/

namespace Sys2Proof.Machine

/-- What a command answers. -/
abbrev Result := Host.Outcome State Fault Refusal

/-! ## Records -/

/-- Node port record n (3.1). -/
def State.node (s : State) (n : NodePort) : NodeLink := s.link.nodes[n.val]

def State.setNode (s : State) (n : NodePort) (r : NodeLink) : State :=
  { s with link := { s.link with nodes := s.link.nodes.set n.val r } }

/-- Disk link record d (3.1). -/
def State.diskLink (s : State) (d : DiskPort) : DiskLink := s.link.disks[d.val]

def State.setDiskLink (s : State) (d : DiskPort) (r : DiskLink) : State :=
  { s with link := { s.link with disks := s.link.disks.set d.val r } }

/-- Admission's records of node n (4.1). -/
def State.desk (s : State) (n : NodePort) : Desk := s.admission.desks[n.val]

def State.setDesk (s : State) (n : NodePort) (r : Desk) : State :=
  { s with admission := { s.admission with desks := s.admission.desks.set n.val r } }

/-- Slot k of node n (4.1). -/
def State.slot (s : State) (n : NodePort) (k : SlotIdx) : Slot := (s.desk n).slots[k.val]

def State.setSlot (s : State) (n : NodePort) (k : SlotIdx) (x : Slot) : State :=
  s.setDesk n { s.desk n with slots := (s.desk n).slots.set k.val x }

/-- Volume table entry v (1.1). -/
def State.volume (s : State) (v : Volume) : VolumeEntry := s.lending.volumes[v.val]

def State.setVolume (s : State) (v : Volume) (r : VolumeEntry) : State :=
  { s with lending := { s.lending with volumes := s.lending.volumes.set v.val r } }

/-- Lending map entry i (1.2). -/
def State.mapEntry (s : State) (i : MapIdx) : MapEntry := s.lending.map[i.val]

def State.setMapEntry (s : State) (i : MapIdx) (r : MapEntry) : State :=
  { s with lending := { s.lending with map := s.lending.map.set i.val r } }

/-- Loan table entry i (2.1). -/
def State.loanAt (s : State) (i : LoanIdx) : Loan := s.loan.loans[i.val]

def State.setLoan (s : State) (i : LoanIdx) (r : Loan) : State :=
  { s with loan := { s.loan with loans := s.loan.loans.set i.val r } }

/-- Meter of node n (5.1). -/
def State.meterOf (s : State) (n : NodePort) : Meter := s.meter.meters[n.val]

def State.setMeter (s : State) (n : NodePort) (r : Meter) : State :=
  { s with meter := { s.meter with meters := s.meter.meters.set n.val r } }

/-- Tally of node n (5.5). -/
def State.tallyOf (s : State) (n : NodePort) : Tally := s.meter.tallies[n.val]

def State.setTally (s : State) (n : NodePort) (r : Tally) : State :=
  { s with meter := { s.meter with tallies := s.meter.tallies.set n.val r } }

/-- Stage i (6.1). -/
def State.stage (s : State) (i : StageIdx) : Stage := s.stages.table[i.val]

def State.setStage (s : State) (i : StageIdx) (r : Stage) : State :=
  { s with stages := { s.stages with table := s.stages.table.set i.val r } }

/-- Disk record d (7.1). -/
def State.disk (s : State) (d : DiskPort) : DiskRecord := s.dispatch.disks[d.val]

def State.setDisk (s : State) (d : DiskPort) (r : DiskRecord) : State :=
  { s with dispatch := { s.dispatch with disks := s.dispatch.disks.set d.val r } }

/-- Lock table entry k (8.1). -/
def State.lockAt (s : State) (k : LockIdx) : Lock := s.lock.locks[k.val]

def State.setLock (s : State) (k : LockIdx) (r : Lock) : State :=
  { s with lock := { s.lock with locks := s.lock.locks.set k.val r } }

/-- Retry count of node n (8.5). -/
def State.retryCount (s : State) (n : NodePort) : Nat := s.lock.retry[n.val]

def State.setRetry (s : State) (n : NodePort) (c : Nat) : State :=
  { s with lock := { s.lock with retry := s.lock.retry.set n.val c } }

/-- The settings (9.4). -/
def State.settings (s : State) : Settings := s.management.settings

/-! ## Steps for every node -/

/-- The node ports 0..31, ascending. -/
def nodePorts : List NodePort := List.finRange 32

/-- The disk ports 0..15, ascending. -/
def diskPorts : List DiskPort := List.finRange 16

/-- The slots 0..15, ascending. -/
def slotIdxs : List SlotIdx := List.finRange 16

/-! ## Counts computed from the tables (log entry 15) -/

/-- The stage is in the set "at the disk" (6.1). -/
def Stage.atDisk (st : Stage) : Bool :=
  st.state == .sent || st.state == .accepted || st.state == .streaming || st.state == .retrying

/-- The number of FREE stages (R106). -/
def State.freeStages (s : State) : Nat := tableCount s.stages.table (·.state == .free)

/-- Outstanding: the disk's stages at the disk, abandoned ones included (7.1). -/
def State.outstanding (s : State) (d : DiskPort) : Nat :=
  tableCount s.stages.table fun st => st.atDisk && st.disk == d

/-- The write blocks on a stage's own account: those of a STORE whose owner was withdrawn (R86). -/
def Stage.account (st : Stage) : Nat :=
  if st.state != .free && st.kind == .store && st.owner.isNone then st.count else 0

/-- The blocks the write data pool holds: those of the slots and those of stores left without an owner (R86). -/
def State.poolHeld (s : State) : Nat :=
  tableSum s.admission.desks (fun dk => tableSum dk.slots (·.held)) + tableSum s.stages.table Stage.account

/-- The free blocks of the write data pool (R86, R175). -/
def State.poolFree (s : State) : Nat := Config.poolBlocks - s.poolHeld

/-- The granule chain of a disk granule, oldest stage first (R112). -/
def State.chain (s : State) (d : DiskPort) (g : Nat) : List StageIdx :=
  s.stages.order.filter fun i => (s.stage i).disk == d && (s.stage i).granule == g

/-- The stage is the head of its granule chain (R112). -/
def State.isChainHead (s : State) (i : StageIdx) : Bool :=
  (s.chain (s.stage i).disk (s.stage i).granule).head? == some i

/-! ## Production of frames (R59, R61) -/

/-- A frame for a node link: to the tail of its list, or discarded where the link is DOWN (R59, R61). It counts
as produced either way (R62; log entry 8). -/
def produceNode (n : NodePort) (f : NodeFrame) (s : State) : State :=
  let r := s.node n
  s.setNode n
    (match r.state with
    | .up => { r with out := r.out ++ [f], produced := true }
    | .down => { r with produced := true })

/-- A frame for a disk link: to the tail of its list (R59). -/
def produceDisk (d : DiskPort) (f : DiskFrame) (s : State) : State :=
  let r := s.diskLink d
  s.setDiskLink d { r with out := r.out ++ [f], produced := true }

/-- DONE for a request (R66). -/
def produceDone (n : NodePort) (tag : Tag) (status : Status) (count : Nat) (s : State) : State :=
  produceNode n (.done tag status count) s

/-- What is left to finish of a list that is emptied: a frame the link had begun to send (R61; log entry 5). -/
def leftToFinish {φ : Type} (begun : Bool) (out : List φ) (finishing : Option φ) : Option φ :=
  match finishing with
  | some f => some f
  | none => if begun then out.head? else none

/-- One free value is drawn (log entries 3 and 5). -/
def State.drawn (s : State) : State := { s with draws := s.draws + 1 }

end Sys2Proof.Machine
end

