-- ==== Sys2Proof/Machine/Flags.lean ====
section
/-! DEFINITION. The notice flags: numbers, masks, details, raising and clearing (9.6). -/

namespace Sys2Proof.Machine

/-- The number of a flag in the flag image (10.3). -/
def Flag.number : Flag → Nat
  | .nodeUp n => n.val
  | .nodeDown n => 32 + n.val
  | .diskUp d => 64 + d.val
  | .diskDown d => 80 + d.val
  | .diskTimeout d => 96 + d.val
  | .diskError d => 112 + d.val
  | .loanLapse => 128
  | .mapCorrected => 129
  | .mapFault => 130
  | .mapLoss => 131
  | .lockBroken => 132
  | .lockout => 133
  | .tallyReady => 134

/-- The flag byte of a NOTICE frame (10.3). -/
def Flag.code : Flag → Nat
  | .nodeUp _ => 0
  | .nodeDown _ => 1
  | .diskUp _ => 2
  | .diskDown _ => 3
  | .diskTimeout _ => 4
  | .diskError _ => 5
  | .loanLapse => 6
  | .mapCorrected => 7
  | .mapFault => 8
  | .mapLoss => 9
  | .lockBroken => 10
  | .lockout => 11
  | .tallyReady => 12

/-- The member byte of a NOTICE frame: port or disk number for a set, 0 for a single flag (10.3). -/
def Flag.member : Flag → Nat
  | .nodeUp n => n.val
  | .nodeDown n => n.val
  | .diskUp d => d.val
  | .diskDown d => d.val
  | .diskTimeout d => d.val
  | .diskError d => d.val
  | _ => 0

/-- The flag is set. -/
def State.flagSet (s : State) (f : Flag) : Bool := s.management.flags.getLsbD f.number

/-- The flag's mask bit is enabled. -/
def State.maskOn (s : State) (f : Flag) : Bool := s.management.masks.getLsbD f.number

/-- The detail of the raise is recorded, for the four flags that carry one (R178). -/
def recordDetail (f : Flag) (detail : Nat) (s : State) : State :=
  match f with
  | .loanLapse => { s with management := { s.management with loanLapseDetail := detail } }
  | .mapCorrected => { s with management := { s.management with mapCorrectedDetail := detail } }
  | .mapFault => { s with management := { s.management with mapFaultDetail := detail } }
  | .mapLoss => { s with management := { s.management with mapLossDetail := detail } }
  | _ => s

/-- The detail field of the flag's NOTICE frame: the recorded detail, 0 for a flag that carries none (10.3). -/
def State.detailOf (s : State) (f : Flag) : Nat :=
  match f with
  | .loanLapse => s.management.loanLapseDetail
  | .mapCorrected => s.management.mapCorrectedDetail
  | .mapFault => s.management.mapFaultDetail
  | .mapLoss => s.management.mapLossDetail
  | _ => 0

/-- The flag becomes set. -/
def setFlag (f : Flag) (s : State) : State :=
  { s with management := { s.management with flags := s.management.flags ||| (1#135 <<< f.number) } }

/-- The flag's NOTICE frame to one node port, if that port is UP and carries the manager attribute (R179). -/
def noticeTo (f : Flag) (n : NodePort) (s : State) : State :=
  if (s.node n).state = .up ∧ (s.node n).manager = true then
    produceNode n (.notice f (s.detailOf f) s.management.flags) s
  else s

/-- The flag's NOTICE frames to the UP manager ports, in ascending port number (R179). -/
def noticeAll (f : Flag) (s : State) : State := nodePorts.foldl (fun s n => noticeTo f n s) s

/-- A raise: the detail is recorded; a clear flag becomes set and, where its mask bit is enabled, causes
NOTICE frames; a set flag stays set and nothing more happens (R178, R179). -/
def raiseFlag (f : Flag) (detail : Nat) (s : State) : State :=
  let s := recordDetail f detail s
  if s.flagSet f then s
  else if s.maskOn f then noticeAll f (setFlag f s)
  else setFlag f s

/-- CLEAR NOTICES: every marked flag becomes clear; details and masks are kept (R181). -/
def clearFlags (selection : FlagImage) (s : State) : State :=
  { s with management := { s.management with flags := s.management.flags &&& ~~~selection } }

end Sys2Proof.Machine
end

