-- ==== Sys2Proof/Machine/Links.lean ====
section
/-! DEFINITION. Link block: good and damaged frames, links going UP and DOWN, silence, IDLE frames, sent
frames (03). -/

namespace Sys2Proof.Machine

/-- A good frame on a node link: silence count 0, a DOWN link UP with NODE_UP raised (R49). -/
def goodNodeFrame (n : NodePort) (s : State) : State :=
  let r := s.node n
  let s := s.setNode n { r with silence := 0, state := .up }
  match r.state with
  | .down => raiseFlag (.nodeUp n) 0 s
  | .up => s

/-- A good frame on a disk link: silence count 0, a DOWN link UP with no flag raised (R49). -/
def goodDiskFrame (d : DiskPort) (s : State) : State :=
  s.setDiskLink d { s.diskLink d with silence := 0, state := .up }

/-- A good frame on a link (R49). -/
def goodFrame : Link → State → State
  | .node n, s => goodNodeFrame n s
  | .disk d, s => goodDiskFrame d s

/-- A damaged frame is dropped and counted, staying at 65535 (R48). -/
def damagedFrame : Link → State → State
  | .node n, s => s.setNode n { s.node n with damaged := min 65535 ((s.node n).damaged + 1) }
  | .disk d, s => s.setDiskLink d { s.diskLink d with damaged := min 65535 ((s.diskLink d).damaged + 1) }

/-- A node link's record goes DOWN with silence count 0 and its outgoing list is emptied; a frame the link has
begun to send is finished (R53, R54, R56, R61). -/
def nodeLinkDown (n : NodePort) (s : State) : State :=
  let r := s.node n
  (s.setNode n
    { r with state := .down, silence := 0, out := [], owed := false,
             finishing := leftToFinish (Config.headBegun s.draws) r.out r.finishing }).drawn

/-- A disk link's record goes DOWN with silence count 0 and its outgoing list holds `rest` alone: nothing at a
silence or a link loss, DROP at a RESTART PORT (R53, R54, R61). -/
def diskLinkDown (d : DiskPort) (rest : List DiskFrame) (s : State) : State :=
  let r := s.diskLink d
  (s.setDiskLink d
    { r with state := .down, silence := 0, out := rest, owed := false, produced := r.produced || !rest.isEmpty,
             finishing := leftToFinish (Config.headBegun s.draws) r.out r.finishing }).drawn

/-- A link finishes sending a frame: the one begun before its list was emptied, or the head of its list (R59, R61). -/
def frameSentOn : Link → State → State
  | .node n, s =>
    let r := s.node n
    s.setNode n
      (match r.finishing with
      | some _ => { r with finishing := none }
      | none => { r with out := r.out.tail })
  | .disk d, s =>
    let r := s.diskLink d
    s.setDiskLink d
      (match r.finishing with
      | some _ => { r with finishing := none }
      | none => { r with out := r.out.tail })

/-- The port clock expiry at a node link: silence of an UP link is counted, but the step that would reach the limit is
left owed (R53; log entry 2, and log entry 31 for a limit of 1 beside R55); IDLE is produced if no frame was since the
last expiry (R62). -/
def NodeLink.atExpiry (limit : Nat) (r : NodeLink) : NodeLink :=
  let r :=
    match r.state with
    | .down => r
    | .up => if limit ≤ r.silence + 1 then { r with owed := true } else { r with silence := r.silence + 1 }
  { r with out := if r.produced then r.out else r.out ++ [.idle], produced := false }

/-- The port clock expiry at a disk link (R53, R62; log entry 31 for a limit of 1 beside R55). -/
def DiskLink.atExpiry (limit : Nat) (r : DiskLink) : DiskLink :=
  let r :=
    match r.state with
    | .down => r
    | .up => if limit ≤ r.silence + 1 then { r with owed := true } else { r with silence := r.silence + 1 }
  { r with out := if r.produced then r.out else r.out ++ [.idle], produced := false }

end Sys2Proof.Machine
end

