-- ==== Sys2Proof/Machine/Operands.lean ====
section
/-! DEFINITION. The codes of enumerated fields, as frames and entry images carry them (10). -/

namespace Sys2Proof.Machine

/-- The request kind of a code; a code not listed is out of range (R187, 10.2). -/
def ReqKind.ofCode : Nat → Option ReqKind
  | 0 => some .read
  | 1 => some .write
  | 2 => some .lockread
  | 3 => some .unlockwrite
  | _ => none

def ReqKind.code : ReqKind → Nat
  | .read => 0
  | .write => 1
  | .lockread => 2
  | .unlockwrite => 3

/-- WRITE and UNLOCKWRITE carry blocks (R65). -/
def ReqKind.isWrite : ReqKind → Bool
  | .read => false
  | .write => true
  | .lockread => false
  | .unlockwrite => true

/-- The lock kinds: LOCKREAD and UNLOCKWRITE (00, Terms). -/
def ReqKind.isLock : ReqKind → Bool
  | .read => false
  | .write => false
  | .lockread => true
  | .unlockwrite => true

/-- The loan mode of a code (R187, 10.2). -/
def LoanMode.ofCode : Nat → Option LoanMode
  | 0 => some .read
  | 1 => some .write
  | 2 => some .sharedUpdate
  | _ => none

def LoanMode.code : LoanMode → Nat
  | .read => 0
  | .write => 1
  | .sharedUpdate => 2

def LoanState.code : LoanState → Nat
  | .free => 0
  | .active => 1
  | .due => 2
  | .lapsed => 3
  | .recalled => 4

/-- The volume state of a code (R2, 10.6). -/
def VolState.ofCode : Nat → Option VolState
  | 0 => some .online
  | 1 => some .frozen
  | 2 => some .offline
  | _ => none

def VolState.code : VolState → Nat
  | .online => 0
  | .frozen => 1
  | .offline => 2

/-- The disk clock scale of a code (R175, 10.6). -/
def Scale.ofCode : Nat → Option Scale
  | 0 => some .normal
  | 1 => some .short
  | _ => none

def Scale.code : Scale → Nat
  | .normal => 0
  | .short => 1

def PortState.code : PortState → Nat
  | .down => 0
  | .up => 1

def DiskState.code : DiskState → Nat
  | .absent => 0
  | .present => 1

def SlotState.code : SlotState → Nat
  | .free => 0
  | .waiting => 1
  | .admitted => 2

def WaitFor.code : WaitFor → Nat
  | .none => 0
  | .credit => 1
  | .stages => 2

def CheckOutcome.code : CheckOutcome → Nat
  | .clean => 0
  | .corrected => 1
  | .uncorrectable => 2

def StageState.code : StageState → Nat
  | .free => 0
  | .queued => 1
  | .sent => 2
  | .accepted => 3
  | .streaming => 4
  | .retrying => 5

def StageKind.code : StageKind → Nat
  | .fetch => 0
  | .store => 1

def LockState.code : LockState → Nat
  | .free => 0
  | .held => 1

def NoticeState.code : NoticeState → Nat
  | .active => 0
  | .due => 1
  | .lapsed => 2
  | .recalled => 3
  | .revoked => 4
  | .none => 5

/-- Node-facing status codes (10.4). -/
def Status.code : Status → Nat
  | .ok => 0
  | .malformed => 1
  | .busy => 2
  | .noVolume => 3
  | .noLoan => 4
  | .notPermitted => 5
  | .range => 6
  | .mapFault => 7
  | .diskLost => 8
  | .diskError => 9
  | .timeout => 10
  | .loanLapsed => 11
  | .loanRevoked => 12
  | .retry => 13
  | .lockHeld => 14
  | .lockLost => 15
  | .aborted => 16

/-- Management reply status codes (10.4). -/
def ReplyStatus.code : ReplyStatus → Nat
  | .ok => 0
  | .okCorrected => 1
  | .badTable => 2
  | .badIndex => 3
  | .badValue => 4
  | .readOnly => 5
  | .conflict => 6
  | .duplicate => 7
  | .tableFull => 8
  | .mapFault => 9
  | .notPermitted => 10
  | .notFound => 11

/-- Table codes (10.3). -/
def Table.code : Table → Byte
  | .settings => 0
  | .port => 1
  | .disk => 2
  | .volume => 3
  | .map => 4
  | .loan => 5
  | .classmap => 6
  | .meter => 7
  | .tally => 8
  | .stage => 9
  | .lock => 10
  | .lockout => 11
  | .request => 12
  | .notice => 13

/-- A wholly read-only table as one of the fourteen (R173). -/
def tableOfReadOnly : ReadOnlyTable → Table
  | .loan => .loan
  | .tally => .tally
  | .stage => .stage
  | .lock => .lock
  | .lockout => .lockout
  | .request => .request

end Sys2Proof.Machine
end

