-- ==== Sys2Proof/Machine/Loans.lean ====
section
/-! DEFINITION. Loan block: the loan check, grants, renewal, and the ageing of one loan (02). -/

namespace Sys2Proof.Machine

/-- A loan in force: ACTIVE or DUE (2.1). -/
def Loan.inForce (l : Loan) : Bool := l.state == .active || l.state == .due

/-- The loan is of the pair of volume v and node n. -/
def Loan.ofPair (l : Loan) (v : Volume) (n : NodePort) : Bool := l.volume == v && l.node == n

/-- The pair's entry, if it has one that is not FREE (R25, R28). -/
def State.pairEntry (s : State) (v : Volume) (n : NodePort) : Option LoanIdx :=
  tableFind s.loan.loans fun l => l.state != .free && l.ofPair v n

/-- The request kinds a mode permits (R27). -/
def LoanMode.permits : LoanMode → ReqKind → Bool
  | .read, .read => true
  | .read, _ => false
  | .write, .read => true
  | .write, .write => true
  | .write, _ => false
  | .sharedUpdate, .write => false
  | .sharedUpdate, _ => true

/-- The loan check: none where the pair's loan permits the request, else the refusing status (R28). -/
def loanCheck (v : Volume) (n : NodePort) (kind : ReqKind) (s : State) : Option Status :=
  match s.pairEntry v n with
  | none => some .noLoan
  | some i =>
    if (s.loanAt i).inForce then
      if (s.loanAt i).mode.permits kind then none else some .notPermitted
    else some .noLoan

/-- The node holds a SHARED-UPDATE loan in force on the volume (R154, R167). -/
def State.sharesVolume (s : State) (v : Volume) (n : NodePort) : Bool :=
  tableAny s.loan.loans fun l => l.inForce && l.ofPair v n && l.mode == .sharedUpdate

/-- What a LOAN NOTICE carries of loan i (R32). -/
def State.loanDetail (s : State) (i : LoanIdx) : LoanDetail :=
  { index := i, mode := (s.loanAt i).mode, term := (s.loanAt i).term, age := (s.loanAt i).age }

/-- A LOAN NOTICE about loan i for its node, if the node's port is UP (R32). -/
def loanNotice (i : LoanIdx) (state : NoticeState) (s : State) : State :=
  match (s.node (s.loanAt i).node).state with
  | .up => produceNode (s.loanAt i).node (.loanNotice (s.loanAt i).volume state (some (s.loanDetail i))) s
  | .down => s

/-- Checks 2 to 4 of R29: none where the pair may be granted the mode on the volume. -/
def grantCheck (v : Volume) (n : NodePort) (m : LoanMode) (s : State) : Option ReplyStatus :=
  if tableAny s.loan.loans (fun l => l.inForce && l.ofPair v n) then some .duplicate
  else if m == .write &&
      tableAny s.loan.loans (fun l => l.inForce && l.volume == v && (l.mode == .write || l.mode == .sharedUpdate))
    then some .conflict
  else if m == .sharedUpdate && tableAny s.loan.loans (fun l => l.inForce && l.volume == v && l.mode == .write)
    then some .conflict
  else none

/-- The entry a grant takes: the pair's own LAPSED or RECALLED entry, otherwise the lowest FREE one (R30). -/
def grantEntry (v : Volume) (n : NodePort) (s : State) : Option LoanIdx :=
  match tableFind s.loan.loans (fun l => (l.state == .lapsed || l.state == .recalled) && l.ofPair v n) with
  | some i => some i
  | none => tableFind s.loan.loans (·.state == .free)

/-- GRANT LOAN after the value checks (R29, R30): the state, the reply status and the entry taken. -/
def grant (v : Volume) (n : NodePort) (m : LoanMode) (term : Nat) (s : State) :
    State × ReplyStatus × Option LoanIdx :=
  match grantCheck v n m s with
  | some st => (s, st, none)
  | none =>
    match grantEntry v n s with
    | none => (s, .tableFull, none)
    | some i =>
      (s.setLoan i { state := .active, volume := v, node := n, mode := m, term := term, age := 0, owed := false },
       .ok, some i)

/-- RENEW of a pair (R39): a loan in force becomes ACTIVE with age 0; the answer goes to the node. -/
def renewPair (v : Volume) (n : NodePort) (s : State) : State :=
  match s.pairEntry v n with
  | none => produceNode n (.loanNotice v .none none) s
  | some i =>
    match (s.loanAt i).state with
    | .free => produceNode n (.loanNotice v .none none) s
    | .active =>
      let s := s.setLoan i { s.loanAt i with age := 0 }
      produceNode n (.loanNotice v .active (some (s.loanDetail i))) s
    | .due =>
      let s := s.setLoan i { s.loanAt i with age := 0, state := .active }
      produceNode n (.loanNotice v .active (some (s.loanDetail i))) s
    | .lapsed => produceNode n (.loanNotice v .lapsed (some (s.loanDetail i))) s
    | .recalled => produceNode n (.loanNotice v .recalled (some (s.loanDetail i))) s

/-- The loan counts lending clock expiries: in force with a term greater than 0 (R34). -/
def Loan.ages (l : Loan) : Bool := l.inForce && decide (0 < l.term)

/-- The next expiry brings the loan's age to its term (R36). -/
def Loan.atTerm (l : Loan) : Bool := decide (l.term ≤ l.age + 1)

/-- The next expiry brings an ACTIVE loan to half its term (R35). -/
def Loan.atHalf (l : Loan) : Bool :=
  l.state == .active && decide (1 ≤ l.term / 2) && decide (l.age + 1 = l.term / 2)

/-- The lending clock expiry at a loan: the age is raised, but a step that would make the loan DUE or lapse it
is left owed (R34; log entry 2). -/
def Loan.atExpiry (l : Loan) : Loan :=
  if l.ages then
    if l.atTerm || l.atHalf then { l with owed := true } else { l with age := l.age + 1 }
  else l

/-- Departure recalls a loan of the node that is in force (R43). -/
def Loan.recalledFrom (n : NodePort) (l : Loan) : Loan :=
  if l.node == n && l.inForce then { l with state := .recalled, owed := false } else l

/-- Every loan of a departing node in ACTIVE or DUE becomes RECALLED (R43). -/
def recallLoans (n : NodePort) (s : State) : State :=
  { s with loan := { s.loan with loans := tableMap (Loan.recalledFrom n) s.loan.loans } }

/-- A part restart at a loan: age 0, DUE becomes ACTIVE, every other state is kept (R45). -/
def Loan.restarted (l : Loan) : Loan :=
  { l with age := 0, owed := false, state := if l.state = .due then .active else l.state }

end Sys2Proof.Machine
end

