-- ==== Sys2Proof/Machine/Locks.lean ====
section
/-! DEFINITION. Lock block: lock checks, taking and freeing locks, retry counts, claims and handoff (08). -/

namespace Sys2Proof.Machine

/-- The HELD entry that names a granule of a volume (R154). -/
def State.lockOn (s : State) (v : Volume) (g : Nat) : Option LockIdx :=
  tableFind s.lock.locks fun l => l.state == .held && l.volume == v && l.granule == g

/-- An entry that becomes FREE keeps its other fields (R153). -/
def Lock.freed (l : Lock) : Lock := { l with state := .free, owed := false }

/-! ## Claims (8.6) -/

/-- The claim becomes active with a fresh timer, and LOCKOUT is raised (R164, R166, R167). -/
def activateClaim (c : Claim) (s : State) : State :=
  raiseFlag .lockout 0 { s with lock := { s.lock with active := some { claim := c, timer := s.settings.lockoutTime } } }

/-- The handoff: pending claims are tested from the head, those whose node holds no SHARED-UPDATE loan in force
are discarded, and the first that passes becomes active (R167). -/
def handOff (s : State) : State :=
  match s.lock.pendingClaims.dropWhile (fun c => !s.sharesVolume c.volume c.node) with
  | [] => { s with lock := { s.lock with active := none, pendingClaims := [] } }
  | c :: rest => activateClaim c { s with lock := { s.lock with pendingClaims := rest } }

/-- The claims with a property are dropped: pending ones leave the list, an active one hands over (R38, R56, R165,
R167). -/
def dropClaims (p : Claim → Bool) (s : State) : State :=
  let s := { s with lock := { s.lock with pendingClaims := s.lock.pendingClaims.filter fun c => !p c } }
  match s.lock.active with
  | none => s
  | some a => if p a.claim then handOff s else s

/-- A claim is judged after a RETRY has raised the node's count (R164). -/
def judgeClaim (c : Claim) (s : State) : State :=
  if s.retryCount c.node < max 1 s.settings.lockoutLimit ∨ (s.volume c.volume).lockoutEnable = false then s
  else
    match s.lock.active with
    | none => activateClaim c s
    | some a =>
      if a.claim.node = c.node ∨ s.lock.pendingClaims.any (fun x => x.node == c.node) = true ∨
          4 ≤ s.lock.pendingClaims.length then s
      else { s with lock := { s.lock with pendingClaims := s.lock.pendingClaims ++ [c] } }

/-- A LOCKREAD refused RETRY: the count is raised, staying at 15, and the RETRY is judged for a claim (R163, R164). -/
def countRetry (n : NodePort) (v : Volume) (g : Nat) (s : State) : State :=
  judgeClaim { node := n, volume := v, granule := g } (s.setRetry n (min 15 (s.retryCount n + 1)))

/-! ## Lock checks and locks (8.2, 8.3) -/

/-- The lock check of a LOCKREAD, by the rows of R155: none passes. -/
def lockreadCheck (n : NodePort) (v : Volume) (g : Nat) (s : State) : Option Status :=
  match s.lockOn v g with
  | some k => if (s.lockAt k).holder = n then some .lockHeld else some .retry
  | none =>
    if s.lock.active.any (fun a => a.claim.volume == v && a.claim.granule == g && a.claim.node != n) then some .retry
    else if tableAny s.lock.locks (·.state == .free) then none
    else some .retry

/-- The lock check of an UNLOCKWRITE (R158): none passes. -/
def unlockwriteCheck (n : NodePort) (v : Volume) (g : Nat) (s : State) : Option Status :=
  match s.lockOn v g with
  | some k => if (s.lockAt k).holder = n then none else some .lockLost
  | none => some .lockLost

/-- Step 5 of an attempt: only the lock kinds are judged (R74). -/
def lockCheck (kind : ReqKind) (n : NodePort) (v : Volume) (g : Nat) (s : State) : Option Status :=
  match kind with
  | .read => none
  | .write => none
  | .lockread => lockreadCheck n v g s
  | .unlockwrite => unlockwriteCheck n v g s

/-- An admitted LOCKREAD takes the lowest FREE entry; the node's count becomes 0; its claim on the granule ends,
active with a handoff or pending (R156). -/
def takeLock (n : NodePort) (v : Volume) (g : Nat) (s : State) : State :=
  match tableFind s.lock.locks (·.state == .free) with
  | none => s
  | some k =>
    dropClaims (fun c => c.node == n && c.volume == v && c.granule == g)
      ((s.setLock k { state := .held, volume := v, granule := g, holder := n, age := 0, owed := false }).setRetry n 0)

/-- An admitted UNLOCKWRITE frees the node's lock on the granule (R158). -/
def giveLock (n : NodePort) (v : Volume) (g : Nat) (s : State) : State :=
  match s.lockOn v g with
  | none => s
  | some k => if (s.lockAt k).holder = n then s.setLock k (s.lockAt k).freed else s

/-- The lock block's part of an admission (R77). -/
def lockAtAdmission (kind : ReqKind) (n : NodePort) (v : Volume) (g : Nat) (s : State) : State :=
  match kind with
  | .read => s
  | .write => s
  | .lockread => takeLock n v g s
  | .unlockwrite => giveLock n v g s

/-- The locks with a property become FREE, with no flag raised (R38, R56). -/
def freeLocks (p : Lock → Bool) (s : State) : State :=
  { s with lock := { s.lock with locks := tableMap (fun l => if p l then l.freed else l) s.lock.locks } }

/-! ## Lending clock steps (R160, R166) -/

/-- The lock's step of an expiry: a HELD lock's age is raised, and at the hold limit, as the expiry
read it, the lock breaks and LOCK_BROKEN is raised (R160, R176). -/
def lockStep (k : LockIdx) (s : State) : State :=
  let l := s.lockAt k
  match l.state with
  | .free => s.setLock k { l with owed := false }
  | .held =>
    if s.lock.limitRead ≤ l.age + 1 then
      raiseFlag .lockBroken 0 (s.setLock k { l with state := .free, age := l.age + 1, owed := false })
    else s.setLock k { l with age := l.age + 1, owed := false }

/-- A lock at an expiry; the step that would break it is left owed (R160; log entry 2). DESIGN CHOICE, log entry 32: an
age below the limit is counted before a lapse of the same expiry releases the lock, which then keeps the raised age; R38
and R160 give no order there. -/
def Lock.atExpiry (limit : Nat) (l : Lock) : Lock :=
  match l.state with
  | .free => l
  | .held => if limit ≤ l.age + 1 then { l with owed := true } else { l with age := l.age + 1 }

/-- The timer's step of an expiry: the active claim's timer falls by 1, and at 0 the claim ends, its node's
count becomes 0 and the handoff follows (R166). -/
def timerStep (s : State) : State :=
  let s := { s with lock := { s.lock with timerOwed := false } }
  match s.lock.active with
  | none => s
  | some a =>
    if a.timer ≤ 1 then handOff (s.setRetry a.claim.node 0)
    else { s with lock := { s.lock with active := some { a with timer := a.timer - 1 } } }

/-- The lockout timer at an expiry; the step that would end the claim is left owed (R166; log entry 2). DESIGN CHOICE,
log entry 32: a timer above 1 is lowered before a lapse of the claimant's loan at the same expiry, so a claim that this
lapse makes active keeps its fresh timer; R168 also allows the lapse first, and the new claim's timer lowered by 1. -/
def timerAtExpiry (s : State) : State :=
  match s.lock.active with
  | none => s
  | some a =>
    if a.timer ≤ 1 then { s with lock := { s.lock with timerOwed := true } }
    else { s with lock := { s.lock with active := some { a with timer := a.timer - 1 } } }

end Sys2Proof.Machine
end

