-- ==== Sys2Proof/Machine/Meters.lean ====
section
/-! DEFINITION. Meter block: refill, charge and tallies (05); and the heads of the wait lists it starts. -/

namespace Sys2Proof.Machine

/-! ## Heads of wait lists (R73, R75) -/

/-- The head of a node's wait list (R73). -/
def State.headOf (s : State) (n : NodePort) : Option SlotIdx := (s.desk n).waitList.head?

/-- The head of the node's wait list has this waiting for (R76). -/
def State.headWaits (s : State) (n : NodePort) (w : WaitFor) : Bool :=
  match s.headOf n with
  | some k => (s.slot n k).waitFor == w
  | none => false

/-- The length of the request at the head of the node's wait list, 0 for an empty list. -/
def State.headLength (s : State) (n : NodePort) : Nat :=
  match s.headOf n with
  | some k => (s.slot n k).length
  | none => 0

/-- An admission attempt is started for the node's head: it is owed until it is taken (R75; log entry 12). -/
def startAttempt (n : NodePort) (s : State) : State :=
  s.setDesk n { s.desk n with attemptsDue := (s.desk n).attemptsDue + 1 }

/-! ## Meters (5.1, 5.2) -/

/-- Metered: whole rate and fraction are not both 0 (5.1). -/
def Meter.metered (m : Meter) : Bool := !(m.whole == 0 && m.fraction == 0)

/-- The extra block of the spread position (R92). -/
def Meter.extra (m : Meter) : Nat :=
  if m.spread * m.fraction / 16 < (m.spread + 1) * m.fraction / 16 then 1 else 0

/-- One refill of a metered meter (R92). -/
def Meter.refill (m : Meter) : Meter :=
  { m with credit := min (m.credit + m.whole + m.extra) m.burst, spread := (m.spread + 1) % 16 }

/-- The refill of one node's meter at an expiry, and the attempt it may start (R92, R94). -/
def refillNode (n : NodePort) (s : State) : State :=
  if (s.meterOf n).metered then
    let s := s.setMeter n (s.meterOf n).refill
    if s.headWaits n .credit && decide (s.headLength n ≤ (s.meterOf n).credit) then startAttempt n s else s
  else s

/-- The meter makes a request of this length wait (R95). -/
def Meter.short (m : Meter) (length : Nat) : Bool := m.metered && decide (m.credit < length)

/-- The charge of an admitted request: a metered node's credit falls by the length (R95). -/
def charge (n : NodePort) (length : Nat) (s : State) : State :=
  if (s.meterOf n).metered then s.setMeter n { s.meterOf n with credit := (s.meterOf n).credit - length } else s

/-- A part restart at a meter: credit B, spread position 0 (R90). -/
def Meter.restarted (m : Meter) : Meter := { m with credit := m.burst, spread := 0 }

/-! ## Tallies (5.5) -/

/-- A completed piece's count is added: cumulative wraps at 2^48, period saturates at 2^32−1 (R99). -/
def Tally.add (t : Tally) (write : Bool) (c : Nat) : Tally :=
  if write then
    { t with cumWritten := (t.cumWritten + c) % 2 ^ 48, perWritten := min (t.perWritten + c) (2 ^ 32 - 1) }
  else { t with cumRead := (t.cumRead + c) % 2 ^ 48, perRead := min (t.perRead + c) (2 ^ 32 - 1) }

/-- The end of a tally period at one tally (R101). -/
def Tally.snapshot (t : Tally) : Tally :=
  { t with overrun := t.overrun || t.ready, snapRead := t.perRead, snapWritten := t.perWritten, perRead := 0,
           perWritten := 0, ready := true }

/-- The tally's read clears READY and OVERRUN (R102). -/
def Tally.afterRead (t : Tally) : Tally := { t with ready := false, overrun := false }

/-- The tally period's step of a lending clock expiry: the count is raised, and at the tally period, as
the expiry read it, every tally is snapshotted, TALLY_READY raised and the count 0 (R100, R101, R176). -/
def tallyStep (s : State) : State :=
  let s := { s with meter := { s.meter with periodOwed := false } }
  if s.meter.periodRead ≤ s.meter.periodCount + 1 then
    raiseFlag .tallyReady 0
      { s with meter := { s.meter with tallies := tableMap Tally.snapshot s.meter.tallies, periodCount := 0 } }
  else { s with meter := { s.meter with periodCount := s.meter.periodCount + 1 } }

/-- The tally period count at a lending clock expiry, which reads the tally period; the step that would end the
period is left owed (R100, R176; log entry 2). -/
def tallyAtExpiry (s : State) : State :=
  if s.settings.tallyPeriod ≤ s.meter.periodCount + 1 then
    { s with meter := { s.meter with periodOwed := true, periodRead := s.settings.tallyPeriod } }
  else
    { s with
      meter := { s.meter with periodCount := s.meter.periodCount + 1, periodRead := s.settings.tallyPeriod } }

end Sys2Proof.Machine
end

