-- ==== Sys2Proof/Machine/Lending.lean ====
section
/-! DEFINITION. Lending block: pieces, scans, translation and the reads of map entries (01). -/

namespace Sys2Proof.Machine

/-! ## Cutting a request into pieces (1.3) -/

/-- A request's part within one volume granule, before translation (R11). -/
structure Cut where
  granule : Nat
  first : Nat
  count : Nat
  deriving DecidableEq, Repr

/-- A translated piece as admission gets it (1.7). -/
structure Piece where
  granule : Nat
  first : Nat
  count : Nat
  disk : DiskPort
  diskGranule : Nat
  deriving DecidableEq, Repr

/-- First index of the piece of granule g of a request at offset o (R11). -/
def cutFirst (o g : Nat) : Nat := if g = o / 8 then o % 8 else 0

/-- Last index of the piece of granule g of a request of length L at offset o (R11). -/
def cutLast (o L g : Nat) : Nat := if g = (o + L - 1) / 8 then (o + L - 1) % 8 else 7

/-- The pieces of a request, in ascending order of volume granule (R11). -/
def cutRequest (o L : Nat) : List Cut :=
  (List.range ((o + L - 1) / 8 + 1 - o / 8)).map fun k =>
    let g := o / 8 + k
    { granule := g, first := cutFirst o g, count := cutLast o L g - cutFirst o g + 1 }

/-! ## Reads under the check code (1.6) -/

/-- What a read of the entry yields: it depends only on the entry as stored (1.6). -/
def MapEntry.yields (e : MapEntry) : CheckOutcome :=
  match e.condition with
  | .intact => .clean
  | .recoverable _ => .corrected
  | .lost => .uncorrectable

/-- The entry after a read: the outcome is recorded (R23), and a CORRECTED entry is stored in recovered form
with a fresh check code (R18). -/
def MapEntry.afterRead (e : MapEntry) : MapEntry :=
  match e.condition with
  | .intact => { e with outcome := .clean }
  | .recoverable original => { stored := original, condition := .intact, outcome := .corrected }
  | .lost => { e with outcome := .uncorrectable }

/-- A read of map entry i (R17, R18, R19): the entry afterwards holds the fields the reader gets. A CORRECTED
read raises MAP_CORRECTED with the index. -/
def readMapEntry (i : MapIdx) (s : State) : State :=
  let e := s.mapEntry i
  let s := s.setMapEntry i e.afterRead
  if e.yields = .corrected then raiseFlag .mapCorrected i.val s else s

/-- The stored form of an entry after a disturbance (1.6; log entry 4). The original fields stay recoverable
only while they were so before. -/
def MapEntry.disturbed (e : MapEntry) (fields : Extent) (recoverable : Bool) : MapEntry :=
  { e with
    stored := fields
    condition :=
      match e.condition with
      | .intact => if recoverable then .recoverable e.stored else .lost
      | .recoverable original => if recoverable then .recoverable original else .lost
      | .lost => .lost }

/-! ## Finding the extent (1.4) -/

/-- A scan that ends at an UNCORRECTABLE entry raises MAP_FAULT, and MAP_LOSS for the write kinds (R20, R21). -/
def raiseMapFault (kind : ReqKind) (i : Nat) (s : State) : State :=
  let s := raiseFlag .mapFault i s
  if kind.isWrite then raiseFlag .mapLoss i s else s

/-- The entry covers volume granule g of volume v (R14). -/
def Extent.covers (e : Extent) (v : Volume) (g : Nat) : Bool :=
  e.valid && e.volume == v && decide (e.base ≤ g) && decide (g < e.base + e.length)

/-- The scan for volume granule g of volume v over `k` entries from index i (R13, R14): the first UNCORRECTABLE
entry ends it with MAP_FAULT, the first valid entry that covers the granule with a match, and the end of the
range with RANGE. -/
def scanMap (kind : ReqKind) (v : Volume) (g : Nat) : Nat → Nat → State → State × Except Status Extent
  | 0, _, s => (s, .error .range)
  | k + 1, i, s =>
    if h : i < 4096 then
      let s' := readMapEntry ⟨i, h⟩ s
      if (s.mapEntry ⟨i, h⟩).yields = .uncorrectable then (raiseMapFault kind i s', .error .mapFault)
      else if (s'.mapEntry ⟨i, h⟩).stored.covers v g then (s', .ok (s'.mapEntry ⟨i, h⟩).stored)
      else scanMap kind v g k (i + 1) s'
    else (s, .error .range)

/-! ## Striping (1.5) -/

/-- The column of a granule in its extent (R15). -/
def Extent.column (e : Extent) (g : Nat) : Nat := ((g - e.base) / e.unit) % e.width

/-- The disk of a granule in its extent (R15; log entry 19 for disk list slots that R7 never lets in). -/
def Extent.diskOf (e : Extent) (g : Nat) : DiskPort :=
  Fin.ofNat 16 (e.disks[e.column g % 8]'(Nat.mod_lt _ (by decide))).toNat

/-- The disk granule of a granule in its extent: d + row × u + within (R15). -/
def Extent.diskGranuleOf (e : Extent) (g : Nat) : Nat :=
  e.diskBase + (g - e.base) / (e.unit * e.width) * e.unit + (g - e.base) % e.unit

/-- The disk named is checked against its record: ABSENT fails with DISK_LOST, a granule not below the
capacity with RANGE (R15). -/
def checkDisk (d : DiskPort) (dg : Nat) (s : State) : Option Status :=
  match (s.disk d).state with
  | .absent => some .diskLost
  | .present => if dg < (s.disk d).capacity then none else some .range

/-- One piece is translated (R13 to R15). -/
def translateCut (kind : ReqKind) (v : Volume) (c : Cut) (s : State) : State × Except Status Piece :=
  match scanMap kind v c.granule (s.volume v).extents (s.volume v).first.val s with
  | (s, .error st) => (s, .error st)
  | (s, .ok e) =>
    match checkDisk (e.diskOf c.granule) (e.diskGranuleOf c.granule) s with
    | some st => (s, .error st)
    | none =>
      (s, .ok { granule := c.granule, first := c.first, count := c.count, disk := e.diskOf c.granule,
                diskGranule := e.diskGranuleOf c.granule })

/-- All pieces are translated in ascending order; the first that fails decides, and the reads made stand (R16). -/
def translateAll (kind : ReqKind) (v : Volume) : List Cut → State → State × Except Status (List Piece)
  | [], s => (s, .ok [])
  | c :: cs, s =>
    match translateCut kind v c s with
    | (s, .error st) => (s, .error st)
    | (s, .ok p) =>
      match translateAll kind v cs s with
      | (s, .error st) => (s, .error st)
      | (s, .ok ps) => (s, .ok (p :: ps))

/-! ## Map writes (R7, R8) -/

/-- The disk span: ⌈length ÷ (u × w)⌉ × u (1.2). -/
def Extent.diskSpan (e : Extent) : Nat := (e.length + e.unit * e.width - 1) / (e.unit * e.width) * e.unit

/-- The used slots 0..w−1 of the disk list (1.2). -/
def Extent.usedDisks (e : Extent) : List Byte := e.disks.toList.take e.width

/-- The conditions of R7 that do not refuse a written entry. -/
def Extent.acceptable (e : Extent) : Bool :=
  (e.unit == 1 || e.unit == 2 || e.unit == 4 || e.unit == 8 || e.unit == 16) &&
  decide (1 ≤ e.width) && decide (e.width ≤ 8) &&
  e.usedDisks.all (fun b => decide (b.toNat ≤ 15)) && decide e.usedDisks.Nodup &&
  decide (1 ≤ e.length) && decide (e.length ≤ 2 ^ 24) &&
  decide (e.base < 2 ^ 29) && decide (e.diskBase < 2 ^ 29) &&
  decide (e.base + e.length ≤ 2 ^ 29) && decide (e.diskBase + e.diskSpan ≤ 2 ^ 29)

/-- Pieces in flight rises by the pieces an admission creates (R4). -/
def raiseInFlight (v : Volume) (c : Nat) (s : State) : State :=
  s.setVolume v { s.volume v with inFlight := (s.volume v).inFlight + c }

/-- Pieces in flight falls by the pieces that end (R4). -/
def lowerInFlight (v : Volume) (c : Nat) (s : State) : State :=
  s.setVolume v { s.volume v with inFlight := (s.volume v).inFlight - c }

end Sys2Proof.Machine
end

