-- ==== Sys2Proof/Machine/Stages.lean ====
section
/-! DEFINITION. Stage block and lanes: allocation, creation, joining, promotion, freeing and passes of the
arbiter owed (06, 7.3). -/

namespace Sys2Proof.Machine

/-! ## Lanes (7.3) -/

/-- A stage leaves the lanes of its disk; the order of the others stays (R135). -/
def leaveLanes (d : DiskPort) (i : StageIdx) (s : State) : State :=
  s.setDisk d { s.disk d with lanes := tableMap (fun l => l.filter (· != i)) (s.disk d).lanes }

/-- A stage enters a lane at its tail (R135). -/
def laneTail (d : DiskPort) (c : Class) (i : StageIdx) (s : State) : State :=
  s.setDisk d { s.disk d with lanes := (s.disk d).lanes.set c.val ((s.disk d).lanes[c.val] ++ [i]) }

/-- A stage enters a lane at its front (R135). -/
def laneFront (d : DiskPort) (c : Class) (i : StageIdx) (s : State) : State :=
  s.setDisk d { s.disk d with lanes := (s.disk d).lanes.set c.val (i :: (s.disk d).lanes[c.val]) }

/-! ## Freeing (R106, R112) -/

/-- The values of a freed stage (R106; log entry 25 for the command tag). -/
def Stage.freed (st : Stage) : Stage :=
  { st with state := .free, abandoned := false, waiters := [], owner := none, arrived := 0, sendAge := 0,
            acceptAge := 0, buffer := Vector.replicate 8 none, data := [], owed := false }

/-- A stage is freed: it leaves its chain and its lane (R106, R112, R122). -/
def freeStage (i : StageIdx) (s : State) : State :=
  let d := (s.stage i).disk
  let s := s.setStage i (s.stage i).freed
  leaveLanes d i { s with stages := { s.stages with order := s.stages.order.filter (· != i) } }

/-- One pass of the arbiter is owed after an event that freed stages (R111; log entry 29 for the end of a loan):
`before` is the state in which the event was taken. -/
def owePass (before s : State) : State :=
  if before.freeStages < s.freeStages then { s with stages := { s.stages with passesDue := s.stages.passesDue + 1 } }
  else s

/-! ## Allocation and creation (R108 to R110) -/

/-- The generation after an allocation: from 15 to 0 (R108). -/
def Stage.nextGeneration (st : Stage) : Nat := (st.generation + 1) % 16

/-- The fields a piece gives a new stage, the rest as R109 and R110 set them. DESIGN CHOICE, log entry 28: R109 gives
a FETCH no first index and count and R110 a STORE no lead index, and these stay as the stage last held them. -/
def Stage.created (st : Stage) (i : StageIdx) (kind : StageKind) (p : Piece) (c : Class) (w : List Waiter)
    (o : Option Owner) (data : List Block) : Stage :=
  { st with
    state := .queued, abandoned := false, kind := kind, disk := p.disk, granule := p.diskGranule,
    generation := st.nextGeneration, tag := st.nextGeneration * 256 + i.val, cls := c,
    lead := (match kind with | .fetch => p.first | .store => st.lead),
    first := (match kind with | .fetch => st.first | .store => p.first),
    count := (match kind with | .fetch => st.count | .store => p.count),
    waiters := w, owner := o, arrived := 0, sendAge := 0, acceptAge := 0, data := data, owed := false }

/-- A new stage takes the lowest FREE stage, and the tails of its chain and lane (R108 to R110, R112, R135). -/
def newStage (kind : StageKind) (p : Piece) (c : Class) (w : List Waiter) (o : Option Owner) (data : List Block)
    (s : State) : State :=
  match tableFind s.stages.table (·.state == .free) with
  | none => s
  | some i =>
    let s := s.setStage i ((s.stage i).created i kind p c w o data)
    laneTail p.disk c i { s with stages := { s.stages with order := s.stages.order ++ [i] } }

/-- The waiter record of a read piece (R109, R114). -/
def waiterOf (n : NodePort) (k : SlotIdx) (p : Piece) : Waiter :=
  { node := n, slot := k, granule := p.granule, first := p.first, count := p.count, delivered := 0 }

/-! ## Joining (R114, R115) -/

/-- The waiter is of the request in slot k of node n. -/
def Waiter.ofRequest (w : Waiter) (n : NodePort) (k : SlotIdx) : Bool := w.node == n && w.slot == k

/-- The conditions of R114 on the tail of a chain. -/
def Stage.joinable (st : Stage) (n : NodePort) (k : SlotIdx) : Bool :=
  st.kind == .fetch && (st.state == .queued || st.state == .sent || st.state == .accepted) && !st.abandoned &&
    decide (st.waiters.length < 8) && !st.waiters.any (·.ofRequest n k)

/-- The tail of the disk granule's chain, if a read piece of the request may join it (R114). DESIGN CHOICE, log entry
30: where a withdrawal has just freed the tail, R127 has the piece create a FETCH, and R114 judges the chain's new tail,
which can be an older fetch that may be joined; the model follows R114. -/
def State.joinTarget (s : State) (n : NodePort) (k : SlotIdx) (d : DiskPort) (g : Nat) : Option StageIdx :=
  match (s.chain d g).getLast? with
  | none => none
  | some i => if (s.stage i).joinable n k then some i else none

/-- A read piece joins a fetch; a waiter of higher class promotes it, and a QUEUED one moves to the tail of its
new lane (R114, R115). -/
def joinStage (i : StageIdx) (w : Waiter) (c : Class) (s : State) : State :=
  let st := s.stage i
  let s := s.setStage i { st with waiters := st.waiters ++ [w], cls := max st.cls c }
  if st.cls < c ∧ st.state = .queued then laneTail st.disk c i (leaveLanes st.disk i s) else s

/-- One piece of an admitted request is created: a read piece joins or creates a FETCH, a write piece creates a
STORE (R109, R110, R114). -/
def createPiece (n : NodePort) (k : SlotIdx) (kind : ReqKind) (c : Class) (p : Piece) (data : List Block)
    (s : State) : State :=
  if kind.isWrite then newStage .store p c [] (some { node := n, slot := k }) data s
  else
    match s.joinTarget n k p.disk p.diskGranule with
    | some i => joinStage i (waiterOf n k p) c s
    | none => newStage .fetch p c [waiterOf n k p] none [] s

/-- The pieces are created in ascending order of granule; a write's carried blocks go to them in order (R12, R77). -/
def createPieces (n : NodePort) (k : SlotIdx) (kind : ReqKind) (c : Class) : List Piece → List Block → State → State
  | [], _, s => s
  | p :: ps, data, s =>
    createPieces n k kind c ps (data.drop p.count) (createPiece n k kind c p (data.take p.count) s)

/-- The stages a request needs (R76): a write piece always one, a read piece one unless it could join, which it
cannot where an earlier piece of the request has the same disk granule. -/
def stagesNeeded (s : State) (n : NodePort) (k : SlotIdx) (kind : ReqKind) :
    List Piece → List (DiskPort × Nat) → Nat
  | [], _ => 0
  | p :: ps, seen =>
    (if kind.isWrite || seen.contains (p.disk, p.diskGranule) ||
        (s.joinTarget n k p.disk p.diskGranule).isNone then 1 else 0) +
      stagesNeeded s n k kind ps ((p.disk, p.diskGranule) :: seen)

end Sys2Proof.Machine
end

