-- ==== Sys2Proof/Machine/Requests.lean ====
section
/-! DEFINITION. The ends of pieces, stages and requests: completion, failure, withdrawal (4.4, 4.5, 6.7 to 6.9). -/

namespace Sys2Proof.Machine

/-! ## Slots (R68, R73) -/

/-- The values of a freed slot: tag, kind, volume, offset, length and class are kept (R68). -/
def Slot.freed (sl : Slot) : Slot :=
  { sl with state := .free, waitFor := .none, outstanding := 0, delivered := 0, held := 0, data := [] }

/-- A slot becomes FREE, leaving the wait list if it is in it (R68, R73). -/
def freeSlot (n : NodePort) (k : SlotIdx) (s : State) : State :=
  s.setDesk n
    { s.desk n with slots := (s.desk n).slots.set k.val (s.slot n k).freed,
                    waitList := (s.desk n).waitList.filter (· != k) }

/-- After an event that changed the node's wait list: a new head is owed an attempt, and no attempt is owed for
an empty list (R75; log entry 12). `before` is the state in which the event was taken. -/
def noteHead (n : NodePort) (before s : State) : State :=
  match s.headOf n with
  | none => s.setDesk n { s.desk n with attemptsDue := 0 }
  | some k => if before.headOf n = some k then s else startAttempt n s

/-! ## Withdrawal of pieces (R124, R125) -/

/-- The stage serves a piece of the request in slot k of node n: as a waiter of its FETCH or the owner of its STORE. -/
def Stage.serves (st : Stage) (n : NodePort) (k : SlotIdx) : Bool :=
  st.state != .free &&
    match st.kind with
    | .fetch => st.waiters.any (·.ofRequest n k)
    | .store => st.owner == some { node := n, slot := k }

/-- The stage without the request's piece (R124, R125). -/
def Stage.without (st : Stage) (n : NodePort) (k : SlotIdx) : Stage :=
  match st.kind with
  | .fetch => { st with waiters := st.waiters.filter fun w => !w.ofRequest n k }
  | .store => { st with owner := none }

/-- The stage has no waiter and no owner left. -/
def Stage.deserted (st : Stage) : Bool := st.waiters.isEmpty && st.owner.isNone

/-- A deserted stage is freed if QUEUED or RETRYING and marked abandoned at its disk otherwise; its blocks then
stay in the pool on its own account (R124, R125, R86). -/
def settleStage (i : StageIdx) (s : State) : State :=
  let st := s.stage i
  if st.deserted then
    match st.state with
    | .free => s
    | .queued => freeStage i s
    | .retrying => freeStage i s
    | .sent => s.setStage i { st with abandoned := true }
    | .accepted => s.setStage i { st with abandoned := true }
    | .streaming => s.setStage i { st with abandoned := true }
  else s

/-- One piece of the request is detached from stage i (R124, R125). -/
def detachPiece (n : NodePort) (k : SlotIdx) (i : StageIdx) (s : State) : State :=
  settleStage i (s.setStage i ((s.stage i).without n k))

/-- The stages that serve a piece of the request. -/
def State.stagesServing (s : State) (n : NodePort) (k : SlotIdx) : List StageIdx :=
  tableFilter s.stages.table fun st => st.serves n k

/-- Every piece of the request that has not ended is withdrawn, and each lowers its volume's pieces in flight
(R83, R4). -/
def withdrawPieces (n : NodePort) (k : SlotIdx) (s : State) : State :=
  lowerInFlight (s.slot n k).volume (s.stagesServing n k).length
    ((s.stagesServing n k).foldl (fun s i => detachPiece n k i s) s)

/-- A request ends: its pieces are withdrawn, its slot freed with its write blocks, and its DONE, if the cause
sends one, produced with the blocks delivered (R81, R83, R85). -/
def endRequest (n : NodePort) (k : SlotIdx) (status : Option Status) (s : State) : State :=
  let sl := s.slot n k
  let s := freeSlot n k (withdrawPieces n k s)
  match status with
  | some st => produceDone n sl.tag st sl.delivered s
  | none => s

/-! ## Completion and failure of pieces (R79 to R81) -/

/-- The slot after one of its pieces has completed (R79). -/
def Slot.pieceDone (sl : Slot) (c : Nat) : Slot :=
  { sl with outstanding := sl.outstanding - 1, delivered := sl.delivered + c,
            held := if sl.kind.isWrite then sl.held - c else sl.held }

/-- A piece of c blocks completes: the slot counts it, the node's tally counts it, the volume's pieces in flight
falls, and the last piece completes the request with DONE OK (R79, R80, R99). -/
def completePiece (n : NodePort) (k : SlotIdx) (c : Nat) (s : State) : State :=
  let sl := (s.slot n k).pieceDone c
  let s := s.setSlot n k sl
  let s := s.setTally n ((s.tallyOf n).add sl.kind.isWrite c)
  let s := lowerInFlight sl.volume 1 s
  if sl.outstanding = 0 then produceDone n sl.tag .ok sl.delivered (freeSlot n k s) else s

/-- A piece fails with its stage: the request fails, its other pieces are withdrawn, and it gets one DONE (R81). -/
def failPiece (n : NodePort) (k : SlotIdx) (status : Status) (s : State) : State :=
  endRequest n k (some status) (lowerInFlight (s.slot n k).volume 1 s)

/-- A piece and the count of blocks it reads or stores. -/
structure Ended where
  node : NodePort
  slot : SlotIdx
  count : Nat
  deriving DecidableEq, Repr

/-- The pieces attached to a stage, in waiter order; the owner's piece for a STORE (R120, R122). -/
def Stage.pieces (st : Stage) : List Ended :=
  match st.kind with
  | .fetch => st.waiters.map fun w => { node := w.node, slot := w.slot, count := w.count }
  | .store =>
    match st.owner with
    | some o => [{ node := o.node, slot := o.slot, count := st.count }]
    | none => []

/-! ## Completion and failure of stages (R120, R122) -/

/-- A stage completes: it is freed, and its pieces are reported complete in waiter order (R120). -/
def completeStage (i : StageIdx) (s : State) : State :=
  (s.stage i).pieces.foldl (fun s e => completePiece e.node e.slot e.count s) (freeStage i s)

/-- A stage fails with a status: it is freed, and its pieces are reported failed in waiter order (R122). -/
def failStage (i : StageIdx) (status : Status) (s : State) : State :=
  (s.stage i).pieces.foldl (fun s e => failPiece e.node e.slot status s) (freeStage i s)

/-- A protocol error by the disk or a DONE ERROR: DISK_ERROR is raised for the stage's disk and the stage fails
(R119). -/
def protocolError (i : StageIdx) (s : State) : State :=
  failStage i .diskError (raiseFlag (.diskError (s.stage i).disk) 0 s)

end Sys2Proof.Machine
end

