-- ==== Sys2Proof/Machine/Endings.lean ====
section
/-! DEFINITION. The events that end work in several blocks: the end of a loan in force, departure, disk loss
and the part restart (2.6, 3.4, 7.9, 9.7). -/

namespace Sys2Proof.Machine

/-! ## The end of a loan in force (R37, R38) -/

/-- The node's slots in use on a volume, ascending (R37, R85). -/
def State.slotsOn (s : State) (n : NodePort) (v : Volume) : List SlotIdx :=
  tableFilter (s.desk n).slots fun sl => sl.state != .free && sl.volume == v

/-- The node's slots in use, ascending (R85). -/
def State.slotsInUse (s : State) (n : NodePort) : List SlotIdx :=
  tableFilter (s.desk n).slots fun sl => sl.state != .free

/-- A loan in force has ended by lapse or revoke: the node's requests on the volume are withdrawn with the status,
its locks there released and its claims there dropped (R37, R38; log entry 22). DESIGN CHOICE, log entry 29: R85
and R111 leave open whether several withdrawals that each free stages are one event; one pass is owed for them all. -/
def endLoanWork (n : NodePort) (v : Volume) (status : Status) (s : State) : State :=
  let before := s
  let s := (s.slotsOn n v).foldl (fun s k => endRequest n k (some status) s) s
  let s := noteHead n before (owePass before s)
  let s := freeLocks (fun l => l.state == .held && l.holder == n && l.volume == v) s
  dropClaims (fun c => c.node == n && c.volume == v) s

/-- Loan i lapses: LAPSED with its age at the term, LOAN NOTICE LAPSED, LOAN_LAPSE raised, and the loan's work
ended (R36). -/
def lapseLoan (i : LoanIdx) (s : State) : State :=
  let l := s.loanAt i
  let s := s.setLoan i { l with state := .lapsed, age := l.age + 1, owed := false }
  let s := loanNotice i .lapsed s
  let s := raiseFlag .loanLapse i.val s
  endLoanWork l.node l.volume .loanLapsed s

/-- The loan's step of a lending clock expiry (R34 to R36). -/
def loanStep (i : LoanIdx) (s : State) : State :=
  let l := s.loanAt i
  if !l.ages then s.setLoan i { l with owed := false }
  else if l.atTerm then lapseLoan i s
  else if l.atHalf then loanNotice i .due (s.setLoan i { l with state := .due, age := l.age + 1, owed := false })
  else s.setLoan i { l with age := l.age + 1, owed := false }

/-- REVOKE LOAN of an entry (R41). -/
def revoke (i : LoanIdx) (s : State) : State × ReplyStatus :=
  let l := s.loanAt i
  match l.state with
  | .free => (s, .notFound)
  | .lapsed => (s.setLoan i { l with state := .free, owed := false }, .ok)
  | .recalled => (s.setLoan i { l with state := .free, owed := false }, .ok)
  | .active =>
    (endLoanWork l.node l.volume .loanRevoked
      (loanNotice i .revoked (s.setLoan i { l with state := .free, owed := false })), .ok)
  | .due =>
    (endLoanWork l.node l.volume .loanRevoked
      (loanNotice i .revoked (s.setLoan i { l with state := .free, owed := false })), .ok)

/-! ## Departure (R56) -/

/-- A node's departure: its link DOWN and its list emptied, its loans recalled, its requests withdrawn with no
frame, its locks and claims gone, its retry count 0, and NODE_DOWN raised (R56). -/
def departure (n : NodePort) (s : State) : State :=
  let before := s
  let s := recallLoans n (nodeLinkDown n s)
  let s := (s.slotsInUse n).foldl (fun s k => endRequest n k none s) s
  let s := owePass before (s.setDesk n { s.desk n with waitList := [], attemptsDue := 0 })
  let s := freeLocks (fun l => l.state == .held && l.holder == n) s
  let s := dropClaims (fun c => c.node == n) (s.setRetry n 0)
  raiseFlag (.nodeDown n) 0 s

/-! ## Disk loss (R149, R123) -/

/-- A stage of the lost disk fails at its turn; one freed before its turn is not failed again (R123). -/
def loseStage (d : DiskPort) (i : StageIdx) (s : State) : State :=
  if (s.stage i).state ≠ .free ∧ (s.stage i).disk = d then failStage i .diskLost s else s

/-- The disk's stages that are not FREE, ascending (R123). -/
def State.stagesOf (s : State) (d : DiskPort) : List StageIdx :=
  tableFilter s.stages.table fun st => st.state != .free && st.disk == d

/-- A lost disk's record: ABSENT, not held, capacity 0, lanes empty, the depth kept (R149). -/
def DiskRecord.lost (r : DiskRecord) : DiskRecord :=
  { r with state := .absent, held := false, capacity := 0, lanes := Vector.replicate 4 [] }

/-- A disk loss, the disk link having been dealt with: every stage of the disk fails with DISK_LOST, the record
becomes ABSENT, and DISK_DOWN is raised where the disk was PRESENT (R149). -/
def diskLoss (d : DiskPort) (s : State) : State :=
  let before := s
  let s := s.setDisk d { s.disk d with lanes := Vector.replicate 4 [] }
  let s := (before.stagesOf d).foldl (fun s i => loseStage d i s) s
  let s := owePass before (s.setDisk d (s.disk d).lost)
  match (before.disk d).state with
  | .absent => s
  | .present => raiseFlag (.diskDown d) 0 s

/-- A link goes DOWN by silence or link loss: a departure or a disk loss (R53, R54). -/
def linkDown : Link → State → State
  | .node n, s => departure n s
  | .disk d, s => diskLoss d (diskLinkDown d [] s)

/-- RESTART PORT of a disk port: DROP is sent where the link is UP (R149, R185; log entry 23 for a DOWN link). -/
def restartDiskPort (d : DiskPort) (s : State) : State :=
  match (s.diskLink d).state with
  | .up => diskLoss d (diskLinkDown d [.drop] s)
  | .down => diskLoss d s

/-! ## Part restart (R183) -/

/-- DONE ABORTED for each slot of the node in use, ascending, if the node's port is UP (R88). -/
def abortNode (n : NodePort) (s : State) : State :=
  match (s.node n).state with
  | .down => s
  | .up => (s.slotsInUse n).foldl (fun s k => produceDone n (s.slot n k).tag .aborted (s.slot n k).delivered s) s

/-- DROP to a PRESENT disk (R151). -/
def dropDisk (d : DiskPort) (s : State) : State :=
  match (s.disk d).state with
  | .absent => s
  | .present => produceDisk d .drop s

/-- A clock's phase restarts; the running period's length stays until the next expiry (R176; log entry 9). -/
def Clock.restarted (c : Clock) : Clock := { c with expiries := 0 }

/-- The link block at a part restart (R47; log entries 7 and 20). -/
def LinkBlock.restarted (b : LinkBlock) : LinkBlock :=
  { nodes := tableMap (fun r => { r with silence := 0, produced := false, owed := false }) b.nodes,
    disks := tableMap (fun r => { r with silence := 0, produced := false, owed := false }) b.disks,
    clock := b.clock.restarted, limitRead := b.limitRead }

/-- Admission at a part restart (R88). -/
def AdmissionBlock.restarted (b : AdmissionBlock) : AdmissionBlock :=
  { desks := tableMap (fun r => { slots := tableMap Slot.freed r.slots, waitList := [], attemptsDue := 0 }) b.desks }

/-- The lending block at a part restart: pieces in flight 0, all else kept (R5, R10). -/
def LendingBlock.restarted (b : LendingBlock) : LendingBlock :=
  { b with volumes := tableMap (fun v => { v with inFlight := 0 }) b.volumes }

/-- The loan block at a part restart (R45). -/
def LoanBlock.restarted (b : LoanBlock) : LoanBlock :=
  { loans := tableMap Loan.restarted b.loans, clock := b.clock.restarted }

/-- The meter block at a part restart: tallies and the period count kept (R90, R104; log entry 20). -/
def MeterBlock.restarted (b : MeterBlock) : MeterBlock :=
  { b with meters := tableMap Meter.restarted b.meters, clock := b.clock.restarted }

/-- The stage block at a part restart: every stage FREE, chains empty, last-served 31, no pass (R128). -/
def StageBlock.restarted (b : StageBlock) : StageBlock :=
  { table := tableMap Stage.freed b.table, order := [], lastServed := 31, passesDue := 0 }

/-- The dispatch block at a part restart: lanes empty, records kept (R151). -/
def DispatchBlock.restarted (b : DispatchBlock) : DispatchBlock :=
  { disks := tableMap (fun r => { r with lanes := Vector.replicate 4 [] }) b.disks,
    clock := { b.clock with expiries := 0 }, timeoutsRead := b.timeoutsRead }

/-- The lock block at a part restart: every lock FREE, no claim, every count 0 (R153, R169). -/
def LockBlock.restarted (b : LockBlock) : LockBlock :=
  { locks := tableMap Lock.freed b.locks, retry := Vector.replicate 32 0, active := none, pendingClaims := [],
    timerOwed := false, limitRead := b.limitRead }

/-- RESTART PART, less its reply: the DONE ABORTED frames, then the DROP frames, and each block's own restart (R183,
R184). -/
def restartPart (s : State) : State :=
  let s := { s with link := s.link.restarted }
  let s := nodePorts.foldl (fun s n => abortNode n s) s
  let s := diskPorts.foldl (fun s d => dropDisk d s) s
  { s with
    admission := s.admission.restarted, lending := s.lending.restarted, loan := s.loan.restarted,
    meter := s.meter.restarted, stages := s.stages.restarted, dispatch := s.dispatch.restarted,
    lock := s.lock.restarted }

end Sys2Proof.Machine
end

