-- ==== Sys2Proof/Machine/Admission.lean ====
section
/-! DEFINITION. Admission block: arrival checks and acceptance, the admission attempt, and the passes of the
stage-pool arbiter (04, 6.3). -/

namespace Sys2Proof.Machine

/-! ## Arrival (4.2) -/

/-- Check 1 of R70: the form of a REQUEST, with its kind where the form is good (R70, R189). -/
def requestForm (f : RequestFrame) : Option ReqKind :=
  match ReqKind.ofCode f.kind.toNat with
  | none => none
  | some kind =>
    if 1 ≤ f.length.toNat ∧ f.length.toNat ≤ 64 ∧ f.hint.toNat ≤ 7 ∧
        f.offset.toNat + f.length.toNat - 1 ≤ 2 ^ 32 - 1 ∧ f.partialBytes = 0 ∧
        f.blocks.length = (if kind.isWrite then f.length.toNat else 0) ∧
        (kind.isLock = true → f.offset.toNat / 8 = (f.offset.toNat + f.length.toNat - 1) / 8) then some kind
    else none

/-- The class of a request: the lesser of the class map's for its hint and the port's ceiling (R64, R72). -/
def State.classOf (s : State) (n : NodePort) (hint : Byte) : Class :=
  min (s.management.classMap[hint.toNat % 8]'(Nat.mod_lt _ (by decide))) (s.node n).ceiling

/-- A REQUEST is accepted into slot k (R72). -/
def acceptRequest (n : NodePort) (k : SlotIdx) (kind : ReqKind) (f : RequestFrame) (s : State) : State :=
  s.setDesk n
    { s.desk n with
      slots := (s.desk n).slots.set k.val
        { state := .waiting, tag := f.tag, kind := kind, volume := f.volume, offset := f.offset.toNat,
          length := f.length.toNat, cls := s.classOf n f.hint, waitFor := .none, outstanding := 0, delivered := 0,
          held := if kind.isWrite then f.length.toNat else 0, data := f.blocks },
      waitList := (s.desk n).waitList ++ [k] }

/-- A REQUEST reaches admission: the checks of R70 in order, a refusal by DONE with block count 0 (R71), or the
acceptance, which starts an attempt where the wait list was empty (R72). -/
def arrive (n : NodePort) (f : RequestFrame) (s : State) : State :=
  match requestForm f with
  | none => produceDone n f.tag .malformed 0 s
  | some kind =>
    if tableAny (s.desk n).slots (fun sl => sl.state != .free && sl.tag == f.tag) then
      produceDone n f.tag .malformed 0 s
    else
      match tableFind (s.desk n).slots (·.state == .free) with
      | none => produceDone n f.tag .busy 0 s
      | some k =>
        if kind.isWrite ∧ s.poolFree < f.length.toNat then produceDone n f.tag .busy 0 s
        else noteHead n s (acceptRequest n k kind f s)

/-! ## The admission attempt (4.3) -/

/-- The head waits for credit or for stages, and nothing else changes (R76). -/
def waitHead (n : NodePort) (k : SlotIdx) (w : WaitFor) (s : State) : State :=
  s.setSlot n k { s.slot n k with waitFor := w }

/-- The head is refused: DONE with the status and block count 0, and its slot freed with its write blocks (R78). -/
def refuseHead (n : NodePort) (k : SlotIdx) (status : Status) (s : State) : State :=
  produceDone n (s.slot n k).tag status 0 (freeSlot n k s)

/-- The slot at its admission with its pieces (R77). -/
def Slot.admitted (sl : Slot) (pieces : Nat) : Slot :=
  { sl with state := .admitted, waitFor := .none, outstanding := pieces, delivered := 0, data := [] }

/-- The slot becomes ADMITTED and leaves the wait list (R77, row 5). -/
def admitSlot (n : NodePort) (k : SlotIdx) (pieces : Nat) (s : State) : State :=
  s.setDesk n
    { s.desk n with slots := (s.desk n).slots.set k.val ((s.slot n k).admitted pieces),
                    waitList := (s.desk n).waitList.filter (· != k) }

/-- The head is admitted: charge, lock, pieces, pieces in flight, slot, in this order (R77). -/
def admitHead (n : NodePort) (k : SlotIdx) (ps : List Piece) (s : State) : State :=
  let sl := s.slot n k
  let s := charge n sl.length s
  let s := lockAtAdmission sl.kind n sl.volume (sl.offset / 8) s
  let s := createPieces n k sl.kind sl.cls ps sl.data s
  let s := raiseInFlight sl.volume ps.length s
  admitSlot n k ps.length s

/-- A LOCKREAD's refusal with RETRY counts and may make a claim; other refusals change no count (R163). -/
def countRefusal (kind : ReqKind) (status : Status) (n : NodePort) (v : Volume) (g : Nat) (s : State) : State :=
  if kind = .lockread ∧ status = .retry then countRetry n v g s else s

/-- Step 3: none for an ONLINE volume (R3). -/
def volumeCheck (v : Volume) (s : State) : Option Status :=
  match (s.volume v).state with
  | .online => none
  | .frozen => some .retry
  | .offline => some .noVolume

/-- Steps 1 to 7 of an attempt for the head in slot k (R74; log entry 11 for the place of NOTICE frames). -/
def judgeHead (n : NodePort) (k : SlotIdx) (s : State) : State :=
  let sl := s.slot n k
  let g := sl.offset / 8
  if (s.meterOf n).short sl.length then waitHead n k .credit s
  else
    match loanCheck sl.volume n sl.kind s with
    | some st => refuseHead n k st s
    | none =>
      match volumeCheck sl.volume s with
      | some st => refuseHead n k st (countRefusal sl.kind st n sl.volume g s)
      | none =>
        match translateAll sl.kind sl.volume (cutRequest sl.offset sl.length) s with
        | (s, .error st) => refuseHead n k st s
        | (s, .ok ps) =>
          match lockCheck sl.kind n sl.volume g s with
          | some st => refuseHead n k st (countRefusal sl.kind st n sl.volume g s)
          | none =>
            if s.freeStages < stagesNeeded s n k sl.kind ps [] then waitHead n k .stages s
            else admitHead n k ps s

/-- One admission attempt for the node's head, if its wait list has one (R74, R75). -/
def attempt (n : NodePort) (s : State) : State :=
  match s.headOf n with
  | none => s
  | some k => noteHead n s (judgeHead n k s)

/-- An attempt that is owed is taken; none is taken where none was started (R75; log entry 12). -/
def takeAttempt (n : NodePort) (s : State) : State :=
  if (s.desk n).attemptsDue = 0 then s
  else attempt n (s.setDesk n { s.desk n with attemptsDue := (s.desk n).attemptsDue - 1 })

/-! ## The stage-pool arbiter (R111) -/

/-- The nodes whose heads wait for STAGES, in ascending order from last-served + 1, wrapping from 31 to 0. -/
def State.passNodes (s : State) : List NodePort :=
  ((nodePorts.map fun k => s.stages.lastServed + 1 + k)).filter fun n => s.headWaits n .stages

/-- The nodes of a pass are served in turn until no stage is FREE; each service sets last-served and makes one
attempt (R111). -/
def serveNodes : List NodePort → State → State
  | [], s => s
  | n :: ns, s =>
    if s.freeStages = 0 then s
    else serveNodes ns (attempt n { s with stages := { s.stages with lastServed := n } })

/-- A pass that is owed is made (R111; log entries 12 and 27). -/
def takePass (s : State) : State :=
  if s.stages.passesDue = 0 then s
  else serveNodes s.passNodes { s with stages := { s.stages with passesDue := s.stages.passesDue - 1 } }

end Sys2Proof.Machine
end

