-- ==== Sys2Proof/Machine/ExecAdmission.lean ====
section
/-! DEFINITION. Meanings of admission attempts and arbiter passes. -/

namespace Sys2Proof.Machine

/-- ADMISSION_ATTEMPT (R74 to R78). -/
def execAdmissionAttempt (n : NodePort) (s : State) : Result := .next (takeAttempt n s)

/-- ARBITER_PASS (R111). -/
def execArbiterPass (s : State) : Result := .next (takePass s)

end Sys2Proof.Machine
end

