-- ==== Sys2Proof/Machine/Disks.lean ====
section
/-! DEFINITION. Dispatch block: matching of replies, the effect of each reply, and sends (07, 6.6). -/

namespace Sys2Proof.Machine

/-! ## Matching (R134) -/

/-- The stage a reply's tag matches: tag 4095 or below, its generation, and at the disk it came from (R134). -/
def matchReply (d : DiskPort) (tag : Tag) (s : State) : Option StageIdx :=
  let i : StageIdx := Fin.ofNat 256 tag.toNat
  if tag.toNat ≤ 4095 ∧ (s.stage i).generation = tag.toNat / 256 ∧ (s.stage i).atDisk = true ∧
      (s.stage i).disk = d then some i
  else none

/-- A reply is taken only while the disk is PRESENT, and acts on the stage its tag matches; any other is
discarded (R134). -/
def onReply (d : DiskPort) (tag : Tag) (act : StageIdx → State → State) (s : State) : State :=
  match (s.disk d).state with
  | .absent => s
  | .present =>
    match matchReply d tag s with
    | none => s
    | some i => act i s

/-! ## HELLO, HOLD, RELEASE -/

/-- HELLO (R133). A capacity above 2^29 is taken as 2^29. -/
def helloFrom (d : DiskPort) (capacity : Nat) (s : State) : State :=
  let r := s.disk d
  let c := min capacity (2 ^ 29)
  match r.state with
  | .absent => raiseFlag (.diskUp d) 0 (s.setDisk d { r with state := .present, capacity := c })
  | .present => s.setDisk d { r with capacity := c }

/-- A stage returns to the front of the lane of its class, QUEUED (R140, R142). -/
def returnToLane (i : StageIdx) (s : State) : State :=
  let st := s.stage i
  laneFront st.disk st.cls i (s.setStage i { st with state := .queued, owed := false })

/-- The disk's RETRYING stages, ascending (R142). -/
def State.retryingOf (s : State) (d : DiskPort) : List StageIdx :=
  tableFilter s.stages.table fun st => st.state == .retrying && st.disk == d

/-- HOLD: held, and the RETRYING stages return to the fronts of their lanes in ascending stage index (R142). -/
def holdFrom (d : DiskPort) (s : State) : State :=
  match (s.disk d).state with
  | .absent => s
  | .present =>
    (s.retryingOf d).reverse.foldl (fun s i => returnToLane i s) (s.setDisk d { s.disk d with held := true })

/-- RELEASE: no longer held (R143). -/
def releaseFrom (d : DiskPort) (s : State) : State :=
  match (s.disk d).state with
  | .absent => s
  | .present => s.setDisk d { s.disk d with held := false }

/-! ## Replies to a command (R138) -/

/-- A matched ACCEPT (R139). -/
def acceptFor (i : StageIdx) (s : State) : State :=
  let st := s.stage i
  match st.state with
  | .sent => s.setStage i { st with state := .accepted, acceptAge := 0 }
  | _ => s

/-- A matched NAK (R140). -/
def nakFor (i : StageIdx) (s : State) : State :=
  let st := s.stage i
  match st.state with
  | .sent =>
    if st.abandoned then owePass s (freeStage i s)
    else if (s.disk st.disk).held then returnToLane i s
    else s.setStage i { st with state := .retrying }
  | .accepted => if st.abandoned then owePass s (freeStage i s) else s
  | .streaming => if st.abandoned then owePass s (freeStage i s) else s
  | _ => s

/-- The waiter's range contains the index (R118). -/
def Waiter.wants (w : Waiter) (b : Nat) : Bool := decide (w.first ≤ b) && decide (b < w.first + w.count)

/-- One DATA frame for a waiter whose range contains the index, with the request tag of its slot (R118). -/
def deliverTo (w : Waiter) (b : BlockIdx) (block : Block) (s : State) : State :=
  if w.wants b.val then produceNode w.node (.data (s.slot w.node w.slot).tag w.granule b block) s else s

/-- The stage after taking a block (R118). -/
def Stage.take (st : Stage) (b : BlockIdx) (block : Block) : Stage :=
  { st with
    state := .streaming, arrived := st.arrived + 1, buffer := st.buffer.set b.val (some block),
    waiters := st.waiters.map fun w => if w.wants b.val then { w with delivered := w.delivered + 1 } else w }

/-- A FETCH takes a block: into the buffer, and as DATA to each waiter that wants it, in waiter order (R118). -/
def takeBlock (i : StageIdx) (b : BlockIdx) (block : Block) (s : State) : State :=
  (s.stage i).waiters.foldl (fun s w => deliverTo w b block s) (s.setStage i ((s.stage i).take b block))

/-- The index the next DATA of a FETCH must carry (R117). -/
def Stage.expected (st : Stage) : Nat := (st.lead + st.arrived) % 8

/-- A matched DATA (R117): the block is taken where the stage is a FETCH, ACCEPTED or STREAMING with fewer than 8
blocks, and the index is the expected one; anything else is a protocol error. -/
def dataFor (index : Byte) (block : Block) (i : StageIdx) (s : State) : State :=
  let st := s.stage i
  if st.kind = .fetch ∧ (st.state = .accepted ∨ (st.state = .streaming ∧ st.arrived < 8)) ∧
      index.toNat = st.expected then
    takeBlock i (Fin.ofNat 8 index.toNat) block s
  else owePass s (protocolError i s)

/-- A DONE OK completes the stage: a FETCH in STREAMING with 8 blocks, or a STORE in ACCEPTED (R120). -/
def Stage.completable (st : Stage) : Bool :=
  match st.kind with
  | .fetch => st.state == .streaming && st.arrived == 8
  | .store => st.state == .accepted

/-- A matched DONE OK: completion, or a protocol error (R119, R120). -/
def doneOkFor (i : StageIdx) (s : State) : State :=
  if (s.stage i).completable then owePass s (completeStage i s) else owePass s (protocolError i s)

/-- A matched DONE ERROR (R119). -/
def doneErrorFor (i : StageIdx) (s : State) : State := owePass s (protocolError i s)

/-! ## Sends (R136, R137) -/

/-- The command of a stage for its disk link (R137). -/
def Stage.command (st : Stage) : DiskFrame :=
  match st.kind with
  | .fetch => .fetch st.tag st.granule st.lead
  | .store => .store st.tag st.granule st.first st.count st.data

/-- The chain-head stage of a lane nearest the front (R136). -/
def State.laneChoice (s : State) (d : DiskPort) (c : Class) : Option StageIdx :=
  (s.disk d).lanes[c.val].find? fun i => (s.stage i).state == .queued && s.isChainHead i

/-- The stage dispatch sends next to the disk, if the conditions of R136 hold: highest class first. -/
def State.choice (s : State) (d : DiskPort) : Option StageIdx :=
  if (s.disk d).state = .present ∧ (s.disk d).held = false ∧ s.outstanding d < (s.disk d).depth then
    match s.laneChoice d 3 with
    | some i => some i
    | none =>
      match s.laneChoice d 2 with
      | some i => some i
      | none =>
        match s.laneChoice d 1 with
        | some i => some i
        | none => s.laneChoice d 0
  else none

/-- A stage is sent from its lane (R137). -/
def sendStage (d : DiskPort) (i : StageIdx) (s : State) : State :=
  let s := s.setStage i { s.stage i with state := .sent, sendAge := 0 }
  produceDisk d (s.stage i).command (leaveLanes d i s)

/-- One send, if the conditions for it hold (R136). -/
def sendTo (d : DiskPort) (s : State) : State :=
  match s.choice d with
  | none => s
  | some i => sendStage d i s

/-! ## Disk clock steps (R145 to R147) -/

/-- A timeout setting of 0 is read as 1 (R146). -/
def readTimeout (t : Nat) : Nat := max 1 t

/-- A disk clock expiry that reads these settings times the stage out (R146). -/
def Stage.timesOut (st : Stage) (x : Timeouts) : Bool :=
  !x.disabled &&
    match st.state with
    | .sent => decide (readTimeout x.retry ≤ min 255 (st.sendAge + 1))
    | .retrying => decide (readTimeout x.retry ≤ min 255 (st.sendAge + 1))
    | .accepted => decide (readTimeout x.response ≤ min 255 (st.acceptAge + 1))
    | .streaming => decide (readTimeout x.response ≤ min 255 (st.acceptAge + 1))
    | .free => false
    | .queued => false

/-- A timeout: DISK_TIMEOUT is raised and the stage fails with TIMEOUT (R147). -/
def timeOutStage (i : StageIdx) (s : State) : State :=
  owePass s (failStage i .timeout (raiseFlag (.diskTimeout (s.stage i).disk) 0 s))

/-- The step of a stage at an expiry that does not time it out: ages saturate at 255, a RETRYING stage is sent
again (R145). -/
def countStage (i : StageIdx) (s : State) : State :=
  let st := s.stage i
  match st.state with
  | .free => s
  | .queued => s
  | .sent => s.setStage i { st with sendAge := min 255 (st.sendAge + 1), owed := false }
  | .retrying =>
    produceDisk st.disk st.command
      (s.setStage i { st with state := .sent, sendAge := min 255 (st.sendAge + 1), owed := false })
  | .accepted => s.setStage i { st with acceptAge := min 255 (st.acceptAge + 1), owed := false }
  | .streaming => s.setStage i { st with acceptAge := min 255 (st.acceptAge + 1), owed := false }

/-- The stage's step of a disk clock expiry, judged by the timeouts as the expiry read them (R145, R146, R176). -/
def stageStep (i : StageIdx) (s : State) : State :=
  if (s.stage i).timesOut s.dispatch.timeoutsRead then timeOutStage i s else countStage i s

/-- A stage at an expiry; the step that would time it out is left owed (R145; log entry 2). DESIGN CHOICE, log entry
32: a stage that does not time out is counted, and sent again from RETRYING, before a timeout of the same expiry can
withdraw its pieces. -/
def stageAtExpiry (i : StageIdx) (s : State) : State :=
  if (s.stage i).timesOut s.settings.timeouts then s.setStage i { s.stage i with owed := true } else countStage i s

end Sys2Proof.Machine
end

