-- ==== Sys2Proof/Machine/Clocks.lean ====
section
/-! DEFINITION. The four interval clocks: what an expiry counts at once, which steps it leaves owed, and those
steps (R33, R52, R91, R144; log entry 2). -/

namespace Sys2Proof.Machine

/-- A clock expires: the next period has the length of the reload as it now stands (R33, R52, R91). -/
def Clock.expire (c : Clock) (reload : Nat) : Clock := { running := reload, expiries := c.expiries + 1 }

/-! ## Port clock (R52, R53) -/

/-- A link's own step of a begun port clock expiry: the silence count of an UP link is raised, and at the silence limit,
as the expiry read it, the link goes DOWN (R53, R176). DESIGN CHOICE, log entry 31: at a silence limit of 1, R55 has a
link whose frame is taken first stay UP with count 1, and R53 takes it DOWN at that count; the model follows R53. -/
def silenceStep : Link → State → State
  | .node n, s =>
    let r := s.node n
    match r.state with
    | .down => s.setNode n { r with owed := false }
    | .up =>
      if s.link.limitRead ≤ r.silence + 1 then linkDown (.node n) s
      else s.setNode n { r with silence := r.silence + 1, owed := false }
  | .disk d, s =>
    let r := s.diskLink d
    match r.state with
    | .down => s.setDiskLink d { r with owed := false }
    | .up =>
      if s.link.limitRead ≤ r.silence + 1 then linkDown (.disk d) s
      else s.setDiskLink d { r with silence := r.silence + 1, owed := false }

/-- The link's step of a begun port clock expiry is still owed. -/
def State.silenceOwed (s : State) : Link → Bool
  | .node n => (s.node n).owed
  | .disk d => (s.diskLink d).owed

/-- The link's step is taken if it is owed (R53; log entry 2). -/
def takeSilence (l : Link) (s : State) : State := if s.silenceOwed l then silenceStep l s else s

/-- The steps still owed of the port clock expiry before are taken, nodes first (log entry 2). -/
def settlePort (s : State) : State :=
  let s := nodePorts.foldl (fun s n => takeSilence (.node n) s) s
  diskPorts.foldl (fun s d => takeSilence (.disk d) s) s

/-- A port clock expiry (R52, R53, R62). -/
def portExpiry (s : State) : State :=
  let s := settlePort s
  { s with
    link :=
      { nodes := tableMap (NodeLink.atExpiry s.settings.silenceLimit) s.link.nodes,
        disks := tableMap (DiskLink.atExpiry s.settings.silenceLimit) s.link.disks,
        clock := s.link.clock.expire s.settings.portReload, limitRead := s.settings.silenceLimit } }

/-! ## Meter clock (R91, R92) -/

/-- A meter clock expiry: every metered meter is refilled, each by itself (R91, R92, R94). -/
def meterExpiry (s : State) : State :=
  let s := nodePorts.foldl (fun s n => refillNode n s) s
  { s with meter := { s.meter with clock := s.meter.clock.expire s.settings.meterReload } }

/-! ## Lending clock (R33) -/

/-- The loan's step is taken if it is owed (log entry 2). -/
def takeLoanStep (i : LoanIdx) (s : State) : State := if (s.loanAt i).owed then loanStep i s else s

/-- The owed step of a loan that it does not lapse (R35). -/
def takeDue (i : LoanIdx) (s : State) : State :=
  if (s.loanAt i).ages && (s.loanAt i).atTerm then s else takeLoanStep i s

/-- The owed step of a loan that it lapses (R36). -/
def takeLapse (i : LoanIdx) (s : State) : State :=
  if (s.loanAt i).ages && (s.loanAt i).atTerm then takeLoanStep i s else s

/-- The lock's step is taken if it is owed (R160; log entry 2). -/
def takeLockStep (k : LockIdx) (s : State) : State := if (s.lockAt k).owed then lockStep k s else s

/-- The lockout timer's step is taken if it is owed (R166; log entry 2). -/
def takeTimer (s : State) : State := if s.lock.timerOwed then timerStep s else s

/-- The tally period's step is taken if it is owed (R100, R101; log entry 2). -/
def takeTally (s : State) : State := if s.meter.periodOwed then tallyStep s else s

/-- The steps still owed of the lending clock expiry before are taken: loans, locks, timer, tally (log entry 2). -/
def settleLending (s : State) : State :=
  let s := (tableFilter s.loan.loans (·.owed)).foldl (fun s i => takeLoanStep i s) s
  let s := (tableFilter s.lock.locks (·.owed)).foldl (fun s k => takeLockStep k s) s
  takeTally (takeTimer s)

/-- The counts of a lending clock expiry that cause nothing further; the steps that would are left owed (R34, R160,
R166, R100). That the counts come before those steps is log entry 32. -/
def countLending (s : State) : State :=
  let s := { s with loan := { s.loan with loans := tableMap Loan.atExpiry s.loan.loans } }
  let s :=
    { s with
      lock :=
        { s.lock with
          locks := tableMap (Lock.atExpiry s.settings.holdLimit) s.lock.locks, limitRead := s.settings.holdLimit } }
  tallyAtExpiry (timerAtExpiry s)

/-- A lending clock expiry (R33). -/
def lendingExpiry (s : State) : State :=
  let s := countLending (settleLending s)
  { s with loan := { s.loan with clock := s.loan.clock.expire s.settings.lendingReload } }

/-! ## Disk clock (R144, R145) -/

/-- The stage's step is taken if it is owed (log entry 2). -/
def takeStageStep (i : StageIdx) (s : State) : State := if (s.stage i).owed then stageStep i s else s

/-- The owed step of a stage in SENT or RETRYING (R146). -/
def takeRetryTimeout (i : StageIdx) (s : State) : State :=
  if (s.stage i).state = .sent ∨ (s.stage i).state = .retrying then takeStageStep i s else s

/-- The owed step of a stage in ACCEPTED or STREAMING (R146). -/
def takeResponseTimeout (i : StageIdx) (s : State) : State :=
  if (s.stage i).state = .accepted ∨ (s.stage i).state = .streaming then takeStageStep i s else s

/-- The steps still owed of the disk clock expiry before are taken, ascending (log entry 2). -/
def settleDisk (s : State) : State :=
  (tableFilter s.stages.table (·.owed)).foldl (fun s i => takeStageStep i s) s

/-- The stages at a disk, ascending. -/
def State.stagesAtDisk (s : State) : List StageIdx := tableFilter s.stages.table Stage.atDisk

/-- A disk clock expiry: each stage at a disk is taken by itself, in ascending stage index (R145; log entry 10). -/
def diskExpiry (s : State) : State :=
  let s := settleDisk s
  let s := s.stagesAtDisk.foldl (fun s i => stageAtExpiry i s) s
  { s with
    dispatch :=
      { s.dispatch with
        clock := { running := s.settings.scale, expiries := s.dispatch.clock.expiries + 1 },
        timeoutsRead := s.settings.timeouts } }

end Sys2Proof.Machine
end

