-- ==== Sys2Proof/Machine/ExecClocks.lean ====
section
/-! DEFINITION. Meanings of the clock expiries and of their own steps at links, loans, locks and stages. -/

namespace Sys2Proof.Machine

/-- PORT_CLOCK_EXPIRY (R52, R53, R62). -/
def execPortClockExpiry (s : State) : Result := .next (portExpiry s)

/-- SILENCE_LIMIT (R53, R55). -/
def execSilenceLimit (l : Link) (s : State) : Result := .next (takeSilence l s)

/-- METER_CLOCK_EXPIRY (R91, R92, R94). -/
def execMeterClockExpiry (s : State) : Result := .next (meterExpiry s)

/-- LENDING_CLOCK_EXPIRY (R33, R34, R100, R160, R166). -/
def execLendingClockExpiry (s : State) : Result := .next (lendingExpiry s)

/-- LOAN_DUE (R34, R35, R40). -/
def execLoanDue (i : LoanIdx) (s : State) : Result := .next (takeDue i s)

/-- LAPSE (R34, R36 to R38, R40). -/
def execLapse (i : LoanIdx) (s : State) : Result := .next (takeLapse i s)

/-- HOLD_LIMIT (R160). -/
def execHoldLimit (k : LockIdx) (s : State) : Result := .next (takeLockStep k s)

/-- LOCKOUT_TIMER (R166 to R168). -/
def execLockoutTimer (s : State) : Result := .next (takeTimer s)

/-- TALLY_PERIOD_END (R100, R101). -/
def execTallyPeriodEnd (s : State) : Result := .next (takeTally s)

/-- DISK_CLOCK_EXPIRY (R144, R145). -/
def execDiskClockExpiry (s : State) : Result := .next (diskExpiry s)

/-- RETRY_TIMEOUT (R145 to R148). -/
def execRetryTimeout (i : StageIdx) (s : State) : Result := .next (takeRetryTimeout i s)

/-- RESPONSE_TIMEOUT (R145 to R148). -/
def execResponseTimeout (i : StageIdx) (s : State) : Result := .next (takeResponseTimeout i s)

end Sys2Proof.Machine
end

