-- ==== Sys2Proof/Machine/ExecDisks.lean ====
section
/-! DEFINITION. Meanings of the frames of disk links and of sends. -/

namespace Sys2Proof.Machine

/-- HELLO (R49, R133). -/
def execHello (d : DiskPort) (capacity : BitVec 32) (s : State) : Result :=
  .next (helloFrom d capacity.toNat (goodDiskFrame d s))

/-- ACCEPT (R49, R134, R139). -/
def execAccept (d : DiskPort) (tag : Tag) (s : State) : Result := .next (onReply d tag acceptFor (goodDiskFrame d s))

/-- NAK (R49, R134, R140). -/
def execNak (d : DiskPort) (tag : Tag) (s : State) : Result := .next (onReply d tag nakFor (goodDiskFrame d s))

/-- DISK_DATA (R49, R134, R117 to R119). -/
def execDiskData (d : DiskPort) (index : Byte) (tag : Tag) (block : Block) (s : State) : Result :=
  .next (onReply d tag (dataFor index block) (goodDiskFrame d s))

/-- DISK_DONE_OK (R49, R134, R119, R120). -/
def execDiskDoneOk (d : DiskPort) (tag : Tag) (s : State) : Result :=
  .next (onReply d tag doneOkFor (goodDiskFrame d s))

/-- DISK_DONE_ERROR (R49, R134, R119). -/
def execDiskDoneError (d : DiskPort) (tag : Tag) (s : State) : Result :=
  .next (onReply d tag doneErrorFor (goodDiskFrame d s))

/-- HOLD (R49, R134, R142). -/
def execHold (d : DiskPort) (s : State) : Result := .next (holdFrom d (goodDiskFrame d s))

/-- RELEASE (R49, R134, R143). -/
def execRelease (d : DiskPort) (s : State) : Result := .next (releaseFrom d (goodDiskFrame d s))

/-- SEND (R136, R137): one send where its conditions hold. -/
def execSend (d : DiskPort) (s : State) : Result := .next (sendTo d s)

end Sys2Proof.Machine
end

