-- ==== Sys2Proof/Machine/ExecLinks.lean ====
section
/-! DEFINITION. Meanings of the frames of node links and of the events of links. -/

namespace Sys2Proof.Machine

/-- POWER_ON (R1, R6, R25, R47, R68, R90, R104, R106, R131, R169, R170): every field of the part takes its power-on
value; the waiting commands and the count of free values are the model's own (log entry 18). -/
def execPowerOn (s : State) : Result := .next { State.reset with pending := s.pending, draws := s.draws }

/-- DAMAGED_FRAME (R48). -/
def execDamagedFrame (l : Link) (s : State) : Result := .next (damagedFrame l s)

/-- UNKNOWN_KIND_FRAME (R49, R50, R51). -/
def execUnknownKindFrame (l : Link) (s : State) : Result := .next (goodFrame l s)

/-- IDLE on a node link (R49). -/
def execIdle (n : NodePort) (s : State) : Result := .next (goodNodeFrame n s)

/-- IDLE on a disk link (R49, R51). -/
def execDiskIdle (d : DiskPort) (s : State) : Result := .next (goodDiskFrame d s)

/-- REQUEST (R49, R70, R71, R72). -/
def execRequest (n : NodePort) (f : RequestFrame) (s : State) : Result := .next (arrive n f (goodNodeFrame n s))

/-- RENEW (R49, R39). -/
def execRenew (n : NodePort) (v : Volume) (s : State) : Result := .next (renewPair v n (goodNodeFrame n s))

/-- LINK_LOSS_INDICATION (R54): an UP link goes DOWN; on a DOWN link nothing changes. -/
def execLinkLossIndication (l : Link) (s : State) : Result :=
  match l with
  | .node n =>
    match (s.node n).state with
    | .up => .next (linkDown (.node n) s)
    | .down => .next s
  | .disk d =>
    match (s.diskLink d).state with
    | .up => .next (linkDown (.disk d) s)
    | .down => .next s

/-- FRAME_SENT (R59, R61). -/
def execFrameSent (l : Link) (s : State) : Result := .next (frameSentOn l s)

end Sys2Proof.Machine
end

