-- ==== Sys2Proof/Machine/Images.lean ====
section
/-! DEFINITION. The entry images of the fourteen tables: what a READ ENTRY returns and what a WRITE ENTRY
carries (10.6, R190). -/

namespace Sys2Proof.Machine

/-! ## Images read -/

/-- SETTINGS, 24 bytes; the two counts are taken at the read (R175). -/
def settingsImage (s : State) : List Byte :=
  let x := s.settings
  beBytes 2 Config.vendorCode ++ beBytes 2 Config.partCode ++ beBytes 1 Config.revision ++ beBytes 1 x.scale.code ++
    beBytes 1 x.portReload ++ beBytes 1 x.meterReload ++ beBytes 2 x.lendingReload ++ beBytes 1 x.silenceLimit ++
    beBytes 1 x.holdLimit ++ beBytes 1 x.lockoutLimit ++ beBytes 1 x.lockoutTime ++ beBytes 1 x.tallyPeriod ++
    beBytes 1 x.responseTimeout ++ beBytes 1 x.retryTimeout ++ [boolByte x.timeoutsDisabled] ++
    beBytes 2 s.poolFree ++ beBytes 2 s.freeStages ++ beBytes 2 0

/-- PORT, 8 bytes (R63). -/
def portImage (r : NodeLink) : List Byte :=
  beBytes 1 r.state.code ++ [boolByte r.manager] ++ beBytes 1 r.ceiling.val ++ beBytes 1 0 ++ beBytes 1 r.silence ++
    beBytes 1 0 ++ beBytes 2 r.damaged

/-- DISK, 20 bytes: the disk record with its disk link record (R132). -/
def diskImage (s : State) (d : DiskPort) : List Byte :=
  let r := s.disk d
  let l := s.diskLink d
  beBytes 1 r.state.code ++ [boolByte r.held] ++ beBytes 1 r.depth ++ beBytes 1 (s.outstanding d) ++
    beBytes 4 r.capacity ++ (r.lanes.toList.map fun x => beBytes 2 x.length).flatten ++ beBytes 1 l.state.code ++
    beBytes 1 l.silence ++ beBytes 2 l.damaged

/-- VOLUME, 8 bytes. -/
def volumeImage (v : VolumeEntry) : List Byte :=
  beBytes 1 v.state.code ++ [boolByte v.lockoutEnable] ++ beBytes 2 v.first.val ++ beBytes 2 v.extents ++
    beBytes 2 v.inFlight

/-- MAP, 28 bytes, as stored (R22). -/
def mapImage (e : MapEntry) : List Byte :=
  let x := e.stored
  [boolByte x.valid] ++ beBytes 1 x.volume.val ++ beBytes 1 x.unit ++ beBytes 1 x.width ++ beBytes 4 x.base ++
    beBytes 4 x.length ++ beBytes 4 x.diskBase ++ x.disks.toList ++ beBytes 1 e.outcome.code ++ beBytes 3 0

/-- LOAN, 8 bytes (R26). -/
def loanImage (l : Loan) : List Byte :=
  beBytes 1 l.state.code ++ beBytes 1 l.volume.val ++ beBytes 1 l.node.val ++ beBytes 1 l.mode.code ++
    beBytes 2 l.term ++ beBytes 2 l.age

/-- CLASSMAP, 1 byte (R177). -/
def classImage (c : Class) : List Byte := beBytes 1 c.val

/-- METER, 8 bytes (R97). -/
def meterImage (m : Meter) : List Byte :=
  beBytes 1 m.whole ++ beBytes 1 m.fraction ++ beBytes 2 m.burst ++ beBytes 2 m.credit ++ beBytes 1 m.spread ++
    beBytes 1 0

/-- TALLY, 32 bytes; READY has value 1 and OVERRUN value 2 (R102). -/
def tallyImage (t : Tally) : List Byte :=
  beBytes 6 t.cumRead ++ beBytes 6 t.cumWritten ++ beBytes 4 t.perRead ++ beBytes 4 t.perWritten ++
    beBytes 4 t.snapRead ++ beBytes 4 t.snapWritten ++
    beBytes 1 ((if t.ready then 1 else 0) + (if t.overrun then 2 else 0)) ++ beBytes 3 0

/-- One waiter record, 12 bytes. -/
def waiterImage (w : Waiter) : List Byte :=
  beBytes 1 w.node.val ++ beBytes 1 w.slot.val ++ beBytes 1 w.first ++ beBytes 1 w.count ++ beBytes 1 w.delivered ++
    beBytes 3 0 ++ beBytes 4 w.granule

/-- The owner fields: present, node, slot, all 0 with no owner. -/
def ownerImage : Option Owner → List Byte
  | some o => beBytes 1 1 ++ beBytes 1 o.node.val ++ beBytes 1 o.slot.val
  | none => beBytes 3 0

/-- STAGE, 120 bytes (R107). -/
def stageImage (s : State) (i : StageIdx) : List Byte :=
  let st := s.stage i
  beBytes 1 st.state.code ++ [boolByte st.abandoned] ++ beBytes 1 st.kind.code ++ beBytes 1 st.disk.val ++
    beBytes 4 st.granule ++ beBytes 1 st.generation ++ beBytes 1 st.cls.val ++ beBytes 2 st.tag ++ beBytes 1 st.lead ++
    beBytes 1 st.first ++ beBytes 1 st.count ++ beBytes 1 st.arrived ++ [boolByte (s.isChainHead i)] ++
    beBytes 1 st.sendAge ++ beBytes 1 st.acceptAge ++ ownerImage st.owner ++ beBytes 1 st.waiters.length ++
    beBytes 1 0 ++ (st.waiters.map waiterImage).flatten ++ beBytes (12 * (8 - st.waiters.length)) 0

/-- LOCK, 12 bytes (R154). -/
def lockImage (l : Lock) : List Byte :=
  beBytes 1 l.state.code ++ beBytes 1 l.volume.val ++ beBytes 1 l.holder.val ++ beBytes 1 0 ++ beBytes 4 l.granule ++
    beBytes 1 l.age ++ beBytes 3 0

/-- The active claim of the LOCKOUT entry; absent, its four fields are 0. -/
def activeImage : Option ActiveClaim → List Byte
  | some a =>
    beBytes 1 1 ++ beBytes 1 a.claim.node.val ++ beBytes 1 a.claim.volume.val ++ beBytes 1 a.timer ++
      beBytes 4 a.claim.granule
  | none => beBytes 8 0

/-- One pending record, 8 bytes. -/
def claimImage (c : Claim) : List Byte :=
  beBytes 1 c.node.val ++ beBytes 1 c.volume.val ++ beBytes 2 0 ++ beBytes 4 c.granule

/-- LOCKOUT, 76 bytes (R169). -/
def lockoutImage (s : State) : List Byte :=
  activeImage s.lock.active ++ beBytes 1 s.lock.pendingClaims.length ++ beBytes 3 0 ++
    (s.lock.pendingClaims.map claimImage).flatten ++ beBytes (8 * (4 - s.lock.pendingClaims.length)) 0 ++
    (s.lock.retry.toList.map fun c => beBytes 1 c).flatten

/-- REQUEST, 16 bytes (R69). -/
def requestImage (sl : Slot) : List Byte :=
  beBytes 1 sl.state.code ++ beBytes 1 sl.kind.code ++ beBytes 1 sl.volume.val ++ beBytes 1 sl.cls.val ++
    beBytes 2 sl.tag.toNat ++ beBytes 1 sl.length ++ beBytes 1 sl.waitFor.code ++ beBytes 4 sl.offset ++
    beBytes 1 sl.outstanding ++ beBytes 1 sl.delivered ++ beBytes 1 sl.held ++ beBytes 1 0

/-- NOTICE, 42 bytes (R180). -/
def noticeImage (m : ManagementBlock) : List Byte :=
  flagImageBytes m.flags ++ beBytes 2 m.loanLapseDetail ++ beBytes 2 m.mapCorrectedDetail ++
    beBytes 2 m.mapFaultDetail ++ beBytes 2 m.mapLossDetail ++ flagImageBytes m.masks

/-! ## Images written: the new entry where every writable field is in its range -/

/-- The settings of a written image, none where R175 refuses it. -/
def settingsOfImage (b : List Byte) : Option Settings :=
  match Scale.ofCode (field b 5 1), boolField b 17 with
  | some scale, some disabled =>
    if field b 10 1 = 0 ∨ field b 11 1 = 0 ∨ field b 13 1 = 0 ∨ 15 < field b 13 1 ∨ field b 14 1 = 0 ∨
        15 < field b 12 1 ∨ 15 < field b 15 1 ∨ 15 < field b 16 1 then none
    else
      some { portReload := field b 6 1, meterReload := field b 7 1, lendingReload := field b 8 2, scale := scale,
             silenceLimit := field b 10 1, holdLimit := field b 11 1, lockoutLimit := field b 12 1,
             lockoutTime := field b 13 1, tallyPeriod := field b 14 1, responseTimeout := field b 15 1,
             retryTimeout := field b 16 1, timeoutsDisabled := disabled }
  | _, _ => none

/-- The manager attribute and class ceiling of a written port image, none where R63 refuses it. -/
def portOfImage (b : List Byte) : Option (Bool × Class) :=
  match boolField b 1 with
  | some m => if h : field b 2 1 < 4 then some (m, ⟨field b 2 1, h⟩) else none
  | none => none

/-- The depth of a written disk image, none where R132 refuses it. -/
def depthOfImage (b : List Byte) : Option Nat :=
  if 1 ≤ field b 2 1 ∧ field b 2 1 ≤ 8 then some (field b 2 1) else none

/-- The writable fields of a written volume image over the entry, none where R2 refuses it. -/
def volumeOfImage (b : List Byte) (old : VolumeEntry) : Option VolumeEntry :=
  match VolState.ofCode (field b 0 1), boolField b 1 with
  | some state, some enable =>
    if h : field b 2 2 < 4096 then
      if field b 4 2 ≤ 256 then
        some { state := state, first := ⟨field b 2 2, h⟩, extents := field b 4 2, lockoutEnable := enable,
               inFlight := old.inFlight }
      else none
    else none
  | _, _ => none

/-- The map fields of a written image, none where R7 refuses it; all eight disk list bytes are kept (R7, R190). -/
def extentOfImage (b : List Byte) : Option Extent :=
  match boolField b 0 with
  | some valid =>
    let e : Extent :=
      { valid := valid, volume := Fin.ofNat 256 (field b 1 1), unit := field b 2 1, width := field b 3 1,
        base := field b 4 4, length := field b 8 4, diskBase := field b 12 4,
        disks := Vector.ofFn fun j => BitVec.ofNat 8 (field b (16 + j.val) 1) }
    if e.acceptable then some e else none
  | none => none

/-- The class of a written class map image, none where R177 refuses it. -/
def classOfImage (b : List Byte) : Option Class := if h : field b 0 1 < 4 then some ⟨field b 0 1, h⟩ else none

/-- The meter after a written image: new I, F and B, the credit lowered to the new B if above it; none where R97
refuses it. -/
def meterOfImage (b : List Byte) (old : Meter) : Option Meter :=
  if field b 1 1 ≤ 15 ∧ 64 ≤ field b 2 2 ∧ field b 2 2 ≤ 4095 then
    some { whole := field b 0 1, fraction := field b 1 1, burst := field b 2 2, credit := min old.credit (field b 2 2),
           spread := old.spread }
  else none

end Sys2Proof.Machine
end

