-- ==== Sys2Proof/Machine/Manage.lean ====
section
/-! DEFINITION. Management block: what is common to all MANAGE frames, table access, and the operations (09). -/

namespace Sys2Proof.Machine

/-! ## Replies (R171) -/

/-- What serving a MANAGE frame gives: the state, the reply status, the index the reply carries, and the entry image. -/
structure Served where
  state : State
  status : ReplyStatus
  index : BitVec 16
  image : List Byte
  deriving DecidableEq, Repr

/-- The frame as a good frame of its link, unless an earlier step took it (R49, R50; log entry 6). -/
def takeManage (h : ManageHeader) (s : State) : State := if h.handedOn then s else goodNodeFrame h.port s

/-- The MANAGE REPLY of a served frame, for the link it came in on (R171). -/
def replyTo (h : ManageHeader) (operation table : Byte) (r : Served) : State :=
  produceNode h.port (.manageReply h.tag operation r.status table r.index r.image) r.state

/-- A MANAGE frame: taken, refused NOT_PERMITTED where its port lacks the manager attribute (check 1 of R171), else
served; exactly one reply is produced, after the frames the operation produced. -/
def manage (h : ManageHeader) (operation table : Byte) (index : BitVec 16) (serve : State → Served) (s : State) :
    State :=
  let s := takeManage h s
  if (s.node h.port).manager then replyTo h operation table (serve s)
  else replyTo h operation table { state := s, status := .notPermitted, index := index, image := [] }

/-- An operation that carries no table: its reply has table 0, and index 0 unless the operation gives one (10.3). -/
def manageOp (h : ManageHeader) (operation : Byte) (serve : State → State × ReplyStatus) (s : State) : State :=
  manage h operation 0 0
    (fun s => { state := (serve s).1, status := (serve s).2, index := 0, image := [] }) s

/-! ## Table access (R173, R174) -/

/-- READ ENTRY of a table of n entries: BAD_INDEX out of its range, else the image `get` gives of the entry, in the
state its read leaves (R171, R174). -/
def readEntry (h : ManageHeader) (t : Table) (index : BitVec 16) (n : Nat)
    (get : Fin n → State → State × ReplyStatus × List Byte) (s : State) : State :=
  manage h 1 t.code index
    (fun s =>
      if hi : index.toNat < n then
        let r := get ⟨index.toNat, hi⟩ s
        { state := r.1, status := r.2.1, index := index, image := r.2.2 }
      else { state := s, status := .badIndex, index := index, image := [] }) s

/-- A read that changes nothing and is answered OK (R174). -/
def plainRead {n : Nat} (image : Fin n → State → List Byte) (i : Fin n) (s : State) :
    State × ReplyStatus × List Byte := (s, .ok, image i s)

/-- WRITE ENTRY of a table of n entries with images of `len` bytes: BAD_INDEX out of its range, BAD_VALUE for
another length, else as the owning rule writes the entry (R171, R173). -/
def writeEntry (h : ManageHeader) (t : Table) (index : BitVec 16) (image : List Byte) (n len : Nat)
    (put : Fin n → List Byte → State → State × ReplyStatus) (s : State) : State :=
  manage h 2 t.code index
    (fun s =>
      if hi : index.toNat < n then
        if image.length = len then
          let r := put ⟨index.toNat, hi⟩ image s
          { state := r.1, status := r.2, index := index, image := [] }
        else { state := s, status := .badValue, index := index, image := [] }
      else { state := s, status := .badIndex, index := index, image := [] }) s

/-! ## Reads with an effect -/

/-- READ ENTRY of a map entry: one read under the check code, its outcome in status and image (R22). -/
def readMap (i : MapIdx) (s : State) : State × ReplyStatus × List Byte :=
  let s' := readMapEntry i s
  (s',
   (match (s.mapEntry i).yields with
    | .clean => .ok
    | .corrected => .okCorrected
    | .uncorrectable => .mapFault),
   mapImage (s'.mapEntry i))

/-- READ ENTRY of a tally: every field as it stands, then READY and OVERRUN clear (R102). -/
def readTally (n : NodePort) (s : State) : State × ReplyStatus × List Byte :=
  (s.setTally n (s.tallyOf n).afterRead, .ok, tallyImage (s.tallyOf n))

/-- The slot of an entry of the REQUEST table: entry n × 16 + s (4.1). -/
def requestEntry (i : Fin 512) (s : State) : Slot :=
  s.slot ⟨i.val / 16, by omega⟩ ⟨i.val % 16, by omega⟩

/-! ## Writes -/

/-- WRITE ENTRY of SETTINGS (R175). -/
def putSettings (_ : Fin 1) (b : List Byte) (s : State) : State × ReplyStatus :=
  match settingsOfImage b with
  | some x => ({ s with management := { s.management with settings := x } }, .ok)
  | none => (s, .badValue)

/-- Some node port other than n has the manager attribute (R63). -/
def State.otherManager (s : State) (n : NodePort) : Bool :=
  nodePorts.any fun m => m != n && (s.node m).manager

/-- WRITE ENTRY of PORT: at least one node port keeps the manager attribute (R63). -/
def putPort (n : NodePort) (b : List Byte) (s : State) : State × ReplyStatus :=
  match portOfImage b with
  | none => (s, .badValue)
  | some (m, c) =>
    if m || s.otherManager n then (s.setNode n { s.node n with manager := m, ceiling := c }, .ok)
    else (s, .conflict)

/-- WRITE ENTRY of DISK: the depth alone is written (R132). -/
def putDisk (d : DiskPort) (b : List Byte) (s : State) : State × ReplyStatus :=
  match depthOfImage b with
  | some x => (s.setDisk d { s.disk d with depth := x }, .ok)
  | none => (s, .badValue)

/-- WRITE ENTRY of VOLUME (R2). -/
def putVolume (v : Volume) (b : List Byte) (s : State) : State × ReplyStatus :=
  match volumeOfImage b (s.volume v) with
  | some x => (s.setVolume v x, .ok)
  | none => (s, .badValue)

/-- WRITE ENTRY of MAP: the fields with a fresh check code, outcome CLEAN; no flag (R7, R8). -/
def putMap (i : MapIdx) (b : List Byte) (s : State) : State × ReplyStatus :=
  match extentOfImage b with
  | some e => (s.setMapEntry i { stored := e, condition := .intact, outcome := .clean }, .ok)
  | none => (s, .badValue)

/-- WRITE ENTRY of CLASSMAP (R177). -/
def putClass (hint : Fin 8) (b : List Byte) (s : State) : State × ReplyStatus :=
  match classOfImage b with
  | some c => ({ s with management := { s.management with classMap := s.management.classMap.set hint.val c } }, .ok)
  | none => (s, .badValue)

/-- WRITE ENTRY of METER; a node left unmetered whose head waits for CREDIT is started (R97, R98). -/
def putMeter (n : NodePort) (b : List Byte) (s : State) : State × ReplyStatus :=
  match meterOfImage b (s.meterOf n) with
  | none => (s, .badValue)
  | some m =>
    let s := s.setMeter n m
    (if !m.metered && s.headWaits n .credit then startAttempt n s else s, .ok)

/-- WRITE ENTRY of NOTICE: the masks alone are written (R180). -/
def putNotice (_ : Fin 1) (b : List Byte) (s : State) : State × ReplyStatus :=
  ({ s with management := { s.management with masks := flagImageOfBytes (b.drop 25) } }, .ok)

/-! ## The other operations -/

/-- GRANT LOAN: check 1 of R29, then the grant; the reply carries the loan index where the status is OK. -/
def serveGrant (v : Volume) (node mode : Byte) (term : BitVec 16) (s : State) : Served :=
  match LoanMode.ofCode mode.toNat with
  | none => { state := s, status := .badValue, index := 0, image := [] }
  | some m =>
    if hn : node.toNat < 32 then
      let r := grant v ⟨node.toNat, hn⟩ m term.toNat s
      { state := r.1, status := r.2.1, image := [],
        index := (match r.2.2 with | some i => BitVec.ofNat 16 i.val | none => 0) }
    else { state := s, status := .badValue, index := 0, image := [] }

/-- REVOKE LOAN: BAD_INDEX above 511, else by the entry's state (R41). -/
def serveRevoke (index : BitVec 16) (s : State) : State × ReplyStatus :=
  if hi : index.toNat < 512 then revoke ⟨index.toNat, hi⟩ s else (s, .badIndex)

/-- BREAK LOCK: BAD_INDEX above 63, NOT_FOUND for a FREE entry, else the entry becomes FREE (R161). -/
def serveBreak (index : BitVec 16) (s : State) : State × ReplyStatus :=
  if hi : index.toNat < 64 then
    match (s.lockAt ⟨index.toNat, hi⟩).state with
    | .free => (s, .notFound)
    | .held => (s.setLock ⟨index.toNat, hi⟩ (s.lockAt ⟨index.toNat, hi⟩).freed, .ok)
  else (s, .badIndex)

/-- RESTART PORT of kind NODE: BAD_INDEX above 31, else a departure (R185). -/
def serveRestartNode (port : Byte) (s : State) : State × ReplyStatus :=
  if hp : port.toNat < 32 then (departure ⟨port.toNat, hp⟩ s, .ok) else (s, .badIndex)

/-- RESTART PORT of kind DISK: BAD_INDEX above 15, else a disk loss (R185). -/
def serveRestartDisk (port : Byte) (s : State) : State × ReplyStatus :=
  if hp : port.toNat < 16 then (restartDiskPort ⟨port.toNat, hp⟩ s, .ok) else (s, .badIndex)

/-! ## Frames refused at checks 2 and 3 of R171 -/

/-- READ ENTRY and WRITE ENTRY, whose replies carry table and index as received (10.3). -/
def namesTable (operation : Byte) : Bool := operation == 1 || operation == 2

/-- The refusal of such a frame: BAD_TABLE for a complete READ ENTRY or WRITE ENTRY of an unknown table, BAD_VALUE
otherwise (R171). -/
def badOperationStatus (operation : Byte) (operands : List Byte) : ReplyStatus :=
  if namesTable operation ∧ 4 ≤ operands.length ∧ 13 < field operands 0 1 then .badTable else .badValue

/-- The table field of its reply, 0 where the frame carries none (10.3; log entry 16). -/
def badOperationTable (operation : Byte) (operands : List Byte) : Byte :=
  if namesTable operation then operands.headD 0 else 0

/-- The index field of its reply, 0 where the frame carries none (10.3; log entry 16). -/
def badOperationIndex (operation : Byte) (operands : List Byte) : BitVec 16 :=
  if namesTable operation ∧ 4 ≤ operands.length then BitVec.ofNat 16 (field operands 2 2) else 0

/-- A MANAGE frame refused at check 1, 2 or 3 (R171). -/
def badOperation (h : ManageHeader) (operation : Byte) (operands : List Byte) (s : State) : State :=
  manage h operation (badOperationTable operation operands) (badOperationIndex operation operands)
    (fun s =>
      { state := s, status := badOperationStatus operation operands,
        index := badOperationIndex operation operands, image := [] }) s

end Sys2Proof.Machine
end

