-- ==== Sys2Proof/Machine/ExecManage.lean ====
section
/-! DEFINITION. Meanings of the other MANAGE commands (R171). -/

namespace Sys2Proof.Machine

/-- GRANT LOAN (R29, R30). -/
def execGrantLoan (h : ManageHeader) (v : Volume) (node : Byte) (mode : Byte) (term : BitVec 16) (s : State) : Result :=
  .next (manage h 3 0 0 (serveGrant v node mode term) s)

/-- REVOKE LOAN (R41). -/
def execRevokeLoan (h : ManageHeader) (index : BitVec 16) (s : State) : Result :=
  .next (manageOp h 4 (serveRevoke index) s)

/-- BREAK LOCK (R161). -/
def execBreakLock (h : ManageHeader) (index : BitVec 16) (s : State) : Result :=
  .next (manageOp h 5 (serveBreak index) s)

/-- CLEAR NOTICES (R181). -/
def execClearNotices (h : ManageHeader) (selection : FlagImage) (s : State) : Result :=
  .next (manageOp h 6 (fun s => (clearFlags selection s, .ok)) s)

/-- RESTART PART (R183, R184). -/
def execRestartPart (h : ManageHeader) (s : State) : Result :=
  .next (manageOp h 7 (fun s => (restartPart s, .ok)) s)

/-- RESTART PORT of kind NODE (R185). -/
def execRestartPortNode (h : ManageHeader) (port : Byte) (s : State) : Result :=
  .next (manageOp h 8 (serveRestartNode port) s)

/-- RESTART PORT of kind DISK (R185). -/
def execRestartPortDisk (h : ManageHeader) (port : Byte) (s : State) : Result :=
  .next (manageOp h 8 (serveRestartDisk port) s)

/-- MANAGE_UNKNOWN_OPERATION: a frame that checks 2 and 3 of R171 refuse. -/
def execManageUnknownOperation (h : ManageHeader) (operation : Byte) (operands : List Byte) (s : State) : Result :=
  .next (badOperation h operation operands s)

end Sys2Proof.Machine
end

