-- ==== Sys2Proof/Machine/ExecReads.lean ====
section
/-! DEFINITION. Meanings of the READ ENTRY commands, one a table (R171, R174). -/

namespace Sys2Proof.Machine

/-- READ ENTRY of SETTINGS (R175). -/
def execReadEntrySettings (h : ManageHeader) (index : BitVec 16) (s : State) : Result :=
  .next (readEntry h .settings index 1 (plainRead (fun _ s => settingsImage s)) s)

/-- READ ENTRY of PORT (R63). -/
def execReadEntryPort (h : ManageHeader) (index : BitVec 16) (s : State) : Result :=
  .next (readEntry h .port index 32 (plainRead (fun n s => portImage (s.node n))) s)

/-- READ ENTRY of DISK (R132). -/
def execReadEntryDisk (h : ManageHeader) (index : BitVec 16) (s : State) : Result :=
  .next (readEntry h .disk index 16 (plainRead (fun d s => diskImage s d)) s)

/-- READ ENTRY of VOLUME (R2, R190). -/
def execReadEntryVolume (h : ManageHeader) (index : BitVec 16) (s : State) : Result :=
  .next (readEntry h .volume index 256 (plainRead (fun v s => volumeImage (s.volume v))) s)

/-- READ ENTRY of MAP (R22). -/
def execReadEntryMap (h : ManageHeader) (index : BitVec 16) (s : State) : Result :=
  .next (readEntry h .map index 4096 readMap s)

/-- READ ENTRY of LOAN (R26). -/
def execReadEntryLoan (h : ManageHeader) (index : BitVec 16) (s : State) : Result :=
  .next (readEntry h .loan index 512 (plainRead (fun i s => loanImage (s.loanAt i))) s)

/-- READ ENTRY of CLASSMAP (R177). -/
def execReadEntryClassmap (h : ManageHeader) (index : BitVec 16) (s : State) : Result :=
  .next (readEntry h .classmap index 8 (plainRead (fun h s => classImage s.management.classMap[h.val])) s)

/-- READ ENTRY of METER (R97). -/
def execReadEntryMeter (h : ManageHeader) (index : BitVec 16) (s : State) : Result :=
  .next (readEntry h .meter index 32 (plainRead (fun n s => meterImage (s.meterOf n))) s)

/-- READ ENTRY of TALLY (R102). -/
def execReadEntryTally (h : ManageHeader) (index : BitVec 16) (s : State) : Result :=
  .next (readEntry h .tally index 32 readTally s)

/-- READ ENTRY of STAGE (R107). -/
def execReadEntryStage (h : ManageHeader) (index : BitVec 16) (s : State) : Result :=
  .next (readEntry h .stage index 256 (plainRead (fun i s => stageImage s i)) s)

/-- READ ENTRY of LOCK (R154). -/
def execReadEntryLock (h : ManageHeader) (index : BitVec 16) (s : State) : Result :=
  .next (readEntry h .lock index 64 (plainRead (fun k s => lockImage (s.lockAt k))) s)

/-- READ ENTRY of LOCKOUT (R169). -/
def execReadEntryLockout (h : ManageHeader) (index : BitVec 16) (s : State) : Result :=
  .next (readEntry h .lockout index 1 (plainRead (fun _ s => lockoutImage s)) s)

/-- READ ENTRY of REQUEST (R69). -/
def execReadEntryRequest (h : ManageHeader) (index : BitVec 16) (s : State) : Result :=
  .next (readEntry h .request index 512 (plainRead (fun i s => requestImage (requestEntry i s))) s)

/-- READ ENTRY of NOTICE (R180). -/
def execReadEntryNotice (h : ManageHeader) (index : BitVec 16) (s : State) : Result :=
  .next (readEntry h .notice index 1 (plainRead (fun _ s => noticeImage s.management)) s)

end Sys2Proof.Machine
end

