-- ==== Sys2Proof/Machine/ExecWrites.lean ====
section
/-! DEFINITION. Meanings of the WRITE ENTRY commands, one a table (R171, R173). -/

namespace Sys2Proof.Machine

/-- WRITE ENTRY of SETTINGS (R175, R176). -/
def execWriteEntrySettings (h : ManageHeader) (index : BitVec 16) (image : List Byte) (s : State) : Result :=
  .next (writeEntry h .settings index image 1 24 putSettings s)

/-- WRITE ENTRY of PORT (R63). -/
def execWriteEntryPort (h : ManageHeader) (index : BitVec 16) (image : List Byte) (s : State) : Result :=
  .next (writeEntry h .port index image 32 8 putPort s)

/-- WRITE ENTRY of DISK (R132). -/
def execWriteEntryDisk (h : ManageHeader) (index : BitVec 16) (image : List Byte) (s : State) : Result :=
  .next (writeEntry h .disk index image 16 20 putDisk s)

/-- WRITE ENTRY of VOLUME (R2). -/
def execWriteEntryVolume (h : ManageHeader) (index : BitVec 16) (image : List Byte) (s : State) : Result :=
  .next (writeEntry h .volume index image 256 8 putVolume s)

/-- WRITE ENTRY of MAP (R7, R8). -/
def execWriteEntryMap (h : ManageHeader) (index : BitVec 16) (image : List Byte) (s : State) : Result :=
  .next (writeEntry h .map index image 4096 28 putMap s)

/-- WRITE ENTRY of CLASSMAP (R177). -/
def execWriteEntryClassmap (h : ManageHeader) (index : BitVec 16) (image : List Byte) (s : State) : Result :=
  .next (writeEntry h .classmap index image 8 1 putClass s)

/-- WRITE ENTRY of METER (R97, R98). -/
def execWriteEntryMeter (h : ManageHeader) (index : BitVec 16) (image : List Byte) (s : State) : Result :=
  .next (writeEntry h .meter index image 32 8 putMeter s)

/-- WRITE ENTRY of NOTICE (R180). -/
def execWriteEntryNotice (h : ManageHeader) (index : BitVec 16) (image : List Byte) (s : State) : Result :=
  .next (writeEntry h .notice index image 1 42 putNotice s)

/-- WRITE ENTRY of a wholly read-only table: READ_ONLY, whatever its index and image (R173). -/
def execWriteEntryReadOnly (h : ManageHeader) (table : ReadOnlyTable) (index : BitVec 16) (s : State) : Result :=
  .next
    (manage h 2 (tableOfReadOnly table).code index
      (fun s => { state := s, status := .readOnly, index := index, image := [] }) s)

end Sys2Proof.Machine
end

