-- ==== Sys2Proof/Machine/Dispatch.lean ====
section
/-! DEFINITION. One arm per command, each a call of its meaning. -/

namespace Sys2Proof.Machine

def exec (i : Instr) (s : State) : Host.Outcome State Fault Refusal :=
  match i with
  | .powerOn => Sys2Proof.Machine.execPowerOn s
  | .damagedFrame l => Sys2Proof.Machine.execDamagedFrame l s
  | .unknownKindFrame l => Sys2Proof.Machine.execUnknownKindFrame l s
  | .idle n => Sys2Proof.Machine.execIdle n s
  | .diskIdle d => Sys2Proof.Machine.execDiskIdle d s
  | .request n f => Sys2Proof.Machine.execRequest n f s
  | .renew n v => Sys2Proof.Machine.execRenew n v s
  | .hello d capacity => Sys2Proof.Machine.execHello d capacity s
  | .accept d tag => Sys2Proof.Machine.execAccept d tag s
  | .nak d tag => Sys2Proof.Machine.execNak d tag s
  | .diskData d index tag block => Sys2Proof.Machine.execDiskData d index tag block s
  | .diskDoneOk d tag => Sys2Proof.Machine.execDiskDoneOk d tag s
  | .diskDoneError d _ tag => Sys2Proof.Machine.execDiskDoneError d tag s
  | .hold d => Sys2Proof.Machine.execHold d s
  | .release d => Sys2Proof.Machine.execRelease d s
  | .linkLossIndication l => Sys2Proof.Machine.execLinkLossIndication l s
  | .frameSent l => Sys2Proof.Machine.execFrameSent l s
  | .portClockExpiry => Sys2Proof.Machine.execPortClockExpiry s
  | .silenceLimit l => Sys2Proof.Machine.execSilenceLimit l s
  | .meterClockExpiry => Sys2Proof.Machine.execMeterClockExpiry s
  | .lendingClockExpiry => Sys2Proof.Machine.execLendingClockExpiry s
  | .loanDue j => Sys2Proof.Machine.execLoanDue j s
  | .lapse j => Sys2Proof.Machine.execLapse j s
  | .holdLimit k => Sys2Proof.Machine.execHoldLimit k s
  | .lockoutTimer => Sys2Proof.Machine.execLockoutTimer s
  | .tallyPeriodEnd => Sys2Proof.Machine.execTallyPeriodEnd s
  | .diskClockExpiry => Sys2Proof.Machine.execDiskClockExpiry s
  | .retryTimeout j => Sys2Proof.Machine.execRetryTimeout j s
  | .responseTimeout j => Sys2Proof.Machine.execResponseTimeout j s
  | .admissionAttempt n => Sys2Proof.Machine.execAdmissionAttempt n s
  | .arbiterPass => Sys2Proof.Machine.execArbiterPass s
  | .send d => Sys2Proof.Machine.execSend d s
  | .readEntrySettings h index => Sys2Proof.Machine.execReadEntrySettings h index s
  | .readEntryPort h index => Sys2Proof.Machine.execReadEntryPort h index s
  | .readEntryDisk h index => Sys2Proof.Machine.execReadEntryDisk h index s
  | .readEntryVolume h index => Sys2Proof.Machine.execReadEntryVolume h index s
  | .readEntryMap h index => Sys2Proof.Machine.execReadEntryMap h index s
  | .readEntryLoan h index => Sys2Proof.Machine.execReadEntryLoan h index s
  | .readEntryClassmap h index => Sys2Proof.Machine.execReadEntryClassmap h index s
  | .readEntryMeter h index => Sys2Proof.Machine.execReadEntryMeter h index s
  | .readEntryTally h index => Sys2Proof.Machine.execReadEntryTally h index s
  | .readEntryStage h index => Sys2Proof.Machine.execReadEntryStage h index s
  | .readEntryLock h index => Sys2Proof.Machine.execReadEntryLock h index s
  | .readEntryLockout h index => Sys2Proof.Machine.execReadEntryLockout h index s
  | .readEntryRequest h index => Sys2Proof.Machine.execReadEntryRequest h index s
  | .readEntryNotice h index => Sys2Proof.Machine.execReadEntryNotice h index s
  | .writeEntrySettings h index image => Sys2Proof.Machine.execWriteEntrySettings h index image s
  | .writeEntryPort h index image => Sys2Proof.Machine.execWriteEntryPort h index image s
  | .writeEntryDisk h index image => Sys2Proof.Machine.execWriteEntryDisk h index image s
  | .writeEntryVolume h index image => Sys2Proof.Machine.execWriteEntryVolume h index image s
  | .writeEntryMap h index image => Sys2Proof.Machine.execWriteEntryMap h index image s
  | .writeEntryClassmap h index image => Sys2Proof.Machine.execWriteEntryClassmap h index image s
  | .writeEntryMeter h index image => Sys2Proof.Machine.execWriteEntryMeter h index image s
  | .writeEntryNotice h index image => Sys2Proof.Machine.execWriteEntryNotice h index image s
  | .writeEntryReadOnly h table index _ => Sys2Proof.Machine.execWriteEntryReadOnly h table index s
  | .grantLoan h v node mode term => Sys2Proof.Machine.execGrantLoan h v node mode term s
  | .revokeLoan h index => Sys2Proof.Machine.execRevokeLoan h index s
  | .breakLock h index => Sys2Proof.Machine.execBreakLock h index s
  | .clearNotices h selection => Sys2Proof.Machine.execClearNotices h selection s
  | .restartPart h => Sys2Proof.Machine.execRestartPart h s
  | .restartPortNode h port => Sys2Proof.Machine.execRestartPortNode h port s
  | .restartPortDisk h port => Sys2Proof.Machine.execRestartPortDisk h port s
  | .manageUnknownOperation h operation operands => Sys2Proof.Machine.execManageUnknownOperation h operation operands s

end Sys2Proof.Machine
end

