-- ==== Sys2Proof/Machine/Environment.lean ====
section
/-! DEFINITION. What happens when no command waits: the block idles, and a stored map entry may be disturbed (1.6;
log entry 3). -/

namespace Sys2Proof.Machine

/-- A disturbance of a stored map entry (1.6). -/
def applyDisturbance (x : Disturbance) (s : State) : State :=
  s.setMapEntry x.entry ((s.mapEntry x.entry).disturbed x.fields x.recoverable)

/-- The step of an empty queue: one free value is drawn, which may disturb one map entry; nothing else changes. -/
def idleStep (s : State) : State :=
  match Config.disturbance s.draws with
  | none => s.drawn
  | some x => applyDisturbance x s.drawn

end Sys2Proof.Machine
end

