-- ==== Sys2Proof/Machine/Step.lean ====
section
/-! DEFINITION. One step of the block: the command at the front of the queue, or idling. -/

namespace Sys2Proof.Machine

/-- A command put at the front of the queue. -/
def State.withCommand (s : State) : Option Instr → State
  | some c => { s with pending := c :: s.pending }
  | none => s

/-- The command that a table word spells, put at the front of the queue; the table gives no bits, so the state is
unchanged (log entry 24). -/
def State.withFetchWord (s : State) (nbits w : Nat) : State := s.withCommand (decodeTableWord nbits w)

/-- The front command runs on the state with the queue's rest; on an empty queue the block idles (log entry 3). -/
def step (s : State) : Host.Outcome State Fault Refusal :=
  match s.pending with
  | c :: rest => exec c { s with pending := rest }
  | [] => .next (idleStep s)

end Sys2Proof.Machine
end

