-- ==== Sys2Proof/Machine/Frames.lean ====
section
/-! DEFINITION. The byte layouts of the frames the part sends (10.1 to 10.5). -/

namespace Sys2Proof.Machine

/-- NOTICE: flag, member, reserved, detail, flag image (10.3). -/
def noticeBody (f : Flag) (detail : Nat) (flags : FlagImage) : List Byte :=
  beBytes 1 0x35 ++ beBytes 1 f.code ++ beBytes 1 f.member ++ beBytes 1 0 ++ beBytes 2 detail ++ flagImageBytes flags

/-- The loan fields of a LOAN NOTICE; with NONE they are sent as 0 (10.2). -/
def loanNoticeTail : Option LoanDetail → List Byte
  | some l => beBytes 1 l.mode.code ++ beBytes 2 l.index.val ++ beBytes 2 l.term ++ beBytes 2 l.age
  | none => beBytes 7 0

/-- LOAN NOTICE (10.2). -/
def loanNoticeBody (v : Volume) (state : NoticeState) (l : Option LoanDetail) : List Byte :=
  beBytes 1 0x33 ++ beBytes 1 state.code ++ beBytes 1 v.val ++ loanNoticeTail l

/-- The fields of a frame for a node, without the frame check (10.2, 10.3). -/
def NodeFrame.body : NodeFrame → List Byte
  | .idle => beBytes 1 0x30
  | .data tag granule index block =>
    beBytes 1 0x31 ++ beBytes 1 index.val ++ beBytes 2 tag.toNat ++ beBytes 4 granule ++ blockBytes block
  | .done tag status count =>
    beBytes 1 0x32 ++ beBytes 1 status.code ++ beBytes 2 tag.toNat ++ beBytes 1 count ++ beBytes 3 0
  | .loanNotice v state l => loanNoticeBody v state l
  | .manageReply tag operation status table index image =>
    beBytes 1 0x34 ++ [operation] ++ beBytes 2 tag.toNat ++ beBytes 1 status.code ++ [table] ++
      beBytes 2 index.toNat ++ image
  | .notice f detail flags => noticeBody f detail flags

/-- The fields of a frame for a disk, without the frame check (10.5). -/
def DiskFrame.body : DiskFrame → List Byte
  | .idle => beBytes 1 0x50
  | .fetch tag granule lead => beBytes 1 0x51 ++ beBytes 1 lead ++ beBytes 2 tag ++ beBytes 4 granule
  | .store tag granule first count blocks =>
    beBytes 1 0x52 ++ beBytes 1 first ++ beBytes 2 tag ++ beBytes 4 granule ++ beBytes 1 count ++ beBytes 3 0 ++
      (blocks.map blockBytes).flatten
  | .drop => beBytes 1 0x53

/-- What goes over a node link for a frame (10). -/
def NodeFrame.bytes (f : NodeFrame) : List Byte := withCheck f.body

/-- What goes over a disk link for a frame (10). -/
def DiskFrame.bytes (f : DiskFrame) : List Byte := withCheck f.body

end Sys2Proof.Machine
end

