-- ==== Sys2Proof/Safety.lean ====
section
/-! DEFINITION. The laws of the part, as the spec states them over the state ("This is a law of the part"), and the
words in which statements speak of commands, replies and frames. -/

namespace Sys2Proof.Machine

/-! ## Laws -/

/-- At least one node port has the manager attribute (R63). -/
def State.ManagerLaw (s : State) : Prop := ∃ n, (s.node n).manager = true

/-- A node's credit lies within 0..B of its meter (R93). -/
def State.CreditLaw (s : State) : Prop := ∀ n, (s.meterOf n).credit ≤ (s.meterOf n).burst

/-- For each pair of volume and node at most one loan entry is in a state other than FREE (R25). -/
def State.LoanPairLaw (s : State) : Prop :=
  ∀ i j, (s.loanAt i).state ≠ .free → (s.loanAt j).state ≠ .free →
    (s.loanAt i).volume = (s.loanAt j).volume → (s.loanAt i).node = (s.loanAt j).node → i = j

/-- A volume has at most one WRITE loan in force, and never one beside a SHARED-UPDATE loan in force (R29). -/
def State.LoanModeLaw (s : State) : Prop :=
  ∀ i j, i ≠ j → (s.loanAt i).inForce = true → (s.loanAt j).inForce = true →
    (s.loanAt i).volume = (s.loanAt j).volume → (s.loanAt i).mode = .write → (s.loanAt j).mode = .read

/-- No two slots of a node that are in use carry the same tag (R69), and the slots of its wait list are WAITING
(R73). -/
def State.SlotLaw (s : State) : Prop :=
  ∀ n, (∀ k l, (s.slot n k).state ≠ .free → (s.slot n l).state ≠ .free → (s.slot n k).tag = (s.slot n l).tag → k = l) ∧
    ∀ k ∈ (s.desk n).waitList, (s.slot n k).state = .waiting

/-- A disk's outstanding count never exceeds 8, its depth is at most 8 (R132), and a lane of a disk holds QUEUED
stages of that disk (R135). -/
def State.DiskLaw (s : State) : Prop :=
  ∀ d, s.outstanding d ≤ 8 ∧ (s.disk d).depth ≤ 8 ∧
    ∀ c : Class, ∀ i ∈ (s.disk d).lanes[c.val], (s.stage i).state = .queued ∧ (s.stage i).disk = d

/-- Every HELD lock's holder holds a SHARED-UPDATE loan in force on the lock's volume, and no two HELD locks name the
same volume and volume granule (R154). -/
def State.LockLaw (s : State) : Prop :=
  (∀ k, (s.lockAt k).state = .held → s.sharesVolume (s.lockAt k).volume (s.lockAt k).holder = true) ∧
    ∀ k l, (s.lockAt k).state = .held → (s.lockAt l).state = .held → (s.lockAt k).volume = (s.lockAt l).volume →
      (s.lockAt k).granule = (s.lockAt l).granule → k = l

/-- The nodes of the active claim and of the pending claims. -/
def State.claimNodes (s : State) : List NodePort :=
  (s.lock.active.map fun a => a.claim.node).toList ++ s.lock.pendingClaims.map (·.node)

/-- The pending list holds at most 4 claims, no node appears twice among the active and pending claims (8.6), and a
claim is pending only beside an active one (R164, R167). -/
def State.ClaimLaw (s : State) : Prop :=
  s.lock.pendingClaims.length ≤ 4 ∧ s.claimNodes.Nodup ∧ (s.lock.active = none → s.lock.pendingClaims = [])

/-- The stages that are not FREE stand once each in the order of creation (R112), and a stage at its disk is the head
of its granule's chain, so that a disk granule has at most one stage at its disk (R113). -/
def State.ChainLaw (s : State) : Prop :=
  s.stages.order.Nodup ∧ (∀ i, i ∈ s.stages.order ↔ (s.stage i).state ≠ .free) ∧
    ∀ i, (s.stage i).atDisk = true → s.isChainHead i = true ∧
      ∀ j, (s.stage j).atDisk = true → (s.stage j).disk = (s.stage i).disk →
        (s.stage j).granule = (s.stage i).granule → j = i

/-- A stage has at most 8 waiters and no request twice among them; a FETCH that is not FREE has none only when it is
abandoned, and a STORE that is not FREE has its owner, or is abandoned and has none (R116); a FREE stage has neither
waiter nor owner, and an abandoned one is at its disk (R106, 6.1). -/
def State.WaiterLaw (s : State) : Prop :=
  ∀ i, (s.stage i).waiters.length ≤ 8 ∧
    ((s.stage i).waiters.Pairwise fun w x => ¬(w.node = x.node ∧ w.slot = x.slot)) ∧
    ((s.stage i).state = .free → (s.stage i).waiters = [] ∧ (s.stage i).owner = none) ∧
    ((s.stage i).state ≠ .free → (s.stage i).kind = .fetch →
      (s.stage i).owner = none ∧ ((s.stage i).waiters = [] ↔ (s.stage i).abandoned = true)) ∧
    ((s.stage i).state ≠ .free → (s.stage i).kind = .store →
      (s.stage i).waiters = [] ∧ ((s.stage i).owner = none ↔ (s.stage i).abandoned = true)) ∧
    ((s.stage i).abandoned = true →
      (s.stage i).state = .sent ∨ (s.stage i).state = .accepted ∨ (s.stage i).state = .streaming)

/-! ## Words for statements -/

/-- What the commands answer, run one after the other from a state. -/
def runAll : List Instr → State → Result
  | [], s => .next s
  | c :: cs, s =>
    match exec c s with
    | .next t => runAll cs t
    | r => r

/-- The own steps that a port clock expiry can leave owed, nodes first (log entry 2). -/
def portSteps : List Instr :=
  (nodePorts.map fun n => .silenceLimit (.node n)) ++ diskPorts.map fun d => .silenceLimit (.disk d)

/-- The own steps that a lending clock expiry can leave owed: loans, locks, timer, tally period (log entry 2). -/
def lendingSteps : List Instr :=
  ((List.finRange 512).flatMap fun i => [.loanDue i, .lapse i]) ++ ((List.finRange 64).map fun k => .holdLimit k) ++
    [.lockoutTimer, .tallyPeriodEnd]

/-- The own steps that a disk clock expiry can leave owed, in ascending stage index (log entry 2). -/
def diskSteps : List Instr := (List.finRange 256).flatMap fun i => [.retryTimeout i, .responseTimeout i]

/-- The state after a good frame on an UP node port: its silence count is 0 (R49). -/
def heardOn (n : NodePort) (s : State) : State := s.setNode n { s.node n with silence := 0 }

/-- The state after a MANAGE frame from an UP port was taken, unless an earlier step took it (R49, R50). -/
def heard (h : ManageHeader) (s : State) : State := if h.handedOn then s else heardOn h.port s

/-- The state after a good frame on a disk link: silence count 0, link UP (R49). -/
def heardFrom (d : DiskPort) (s : State) : State :=
  s.setDiskLink d { s.diskLink d with silence := 0, state := .up }

/-- The state with one more frame at the tail of the list of an UP node port (R59). -/
def replied (n : NodePort) (f : NodeFrame) (s : State) : State :=
  s.setNode n { s.node n with out := (s.node n).out ++ [f], produced := true }

/-- The sender's port is UP and carries the manager attribute. -/
def State.managedBy (s : State) (h : ManageHeader) : Prop :=
  (s.node h.port).state = .up ∧ (s.node h.port).manager = true

/-- From r to r', a node link only gains frames at the tail of its list (R59); its silence count may have been reset by
a frame taken from it. -/
def MoreFrames (r r' : NodeLink) : Prop :=
  ∃ frames, r' = { r with out := r.out ++ frames, produced := r'.produced, silence := r'.silence }

/-- One admission attempt that was owed to a node has been taken (R75). -/
def attempted (n : NodePort) (s : State) : State :=
  s.setDesk n { s.desk n with attemptsDue := (s.desk n).attemptsDue - 1 }

/-- A slot whose request has ended: tag, kind, volume, offset, length and class are kept (R68). -/
def Slot.ended (sl : Slot) : Slot :=
  { sl with state := .free, waitFor := .none, outstanding := 0, delivered := 0, held := 0, data := [] }

/-- The frame is no DONE. -/
def NodeFrame.noDone : NodeFrame → Bool
  | .done _ _ _ => false
  | _ => true

/-- The request in slot k of node n has failed with a status (R81): its slot is FREE, and an UP port got its DONE with
the blocks delivered before the failure. -/
def RequestFailed (n : NodePort) (k : SlotIdx) (status : Status) (s t : State) : Prop :=
  t.slot n k = (s.slot n k).ended ∧
    ((s.node n).state = .up → ∃ before after, (t.node n).out =
      (s.node n).out ++ before ++ .done (s.slot n k).tag status (s.slot n k).delivered :: after)

/-- Stage i has failed with a status and served no request but that of slot k of node n, which has a piece on no other
stage: the volume's pieces in flight fell by its one piece (R4), and its DONE is the only one that its node got. -/
def SoleRequestFailed (i : StageIdx) (n : NodePort) (k : SlotIdx) (status : Status) (s t : State) : Prop :=
  ((s.stage i).kind = .fetch → (s.stage i).waiters.length = 1) → (∀ j, j ≠ i → (s.stage j).serves n k = false) →
    (t.volume (s.slot n k).volume).inFlight = (s.volume (s.slot n k).volume).inFlight - 1 ∧
    ((s.node n).state = .up → ∃ before after, (t.node n).out =
        (s.node n).out ++ before ++ .done (s.slot n k).tag status (s.slot n k).delivered :: after ∧
      (before ++ after).all NodeFrame.noDone = true)

/-- A stage that has been freed (R106); that it keeps its command tag is log entry 25. -/
def Stage.emptied (st : Stage) : Stage :=
  { st with
    state := .free, abandoned := false, waiters := [], owner := none, arrived := 0, sendAge := 0, acceptAge := 0,
    buffer := Vector.replicate 8 none, data := [], owed := false }

/-- Some stage that `gone` names serves the request in slot k of node n. -/
def State.onStages (s : State) (gone : StageIdx → Bool) (n : NodePort) (k : SlotIdx) : Bool :=
  (List.finRange 256).any fun i => gone i && (s.stage i).serves n k

/-- A disk's lanes have lost the stages that became FREE, and nothing else (R122, R124, R125, R135). -/
def LanesLeft (d : DiskPort) (s t : State) : Prop :=
  ∀ c : Class, (t.disk d).lanes[c.val] = (s.disk d).lanes[c.val].filter fun i =>
    (s.stage i).disk != d || (s.stage i).state == .free || (t.stage i).state != .free

/-- A stage after the withdrawal of every piece of the requests that p names (R124, R125): their waiters and its owner
are gone; with none left a QUEUED or RETRYING stage is freed and one at its disk otherwise is abandoned. -/
def Stage.withdrawn (p : NodePort → SlotIdx → Bool) (st : Stage) : Stage :=
  let hit :=
    match st.kind with
    | .fetch => st.waiters.any fun w => p w.node w.slot
    | .store => st.owner.any fun o => p o.node o.slot
  let rest :=
    match st.kind with
    | .fetch => { st with waiters := st.waiters.filter fun w => !p w.node w.slot }
    | .store => { st with owner := none }
  if hit = false ∨ st.state = .free then st
  else if rest.waiters ≠ [] ∨ rest.owner ≠ none then rest
  else if st.state = .queued ∨ st.state = .retrying then rest.emptied
  else { rest with abandoned := true }

/-- From s to t the requests of node n that p names, and no other, were withdrawn (R83): their slots are FREE with no
write blocks held, their pieces have left their stages, stages freed by it have left their chains and lanes, a STORE of
theirs that stays at its disk holds its blocks on its own account (R86), and each piece lowered its volume's pieces in
flight (R4). -/
structure Withdrawn (n : NodePort) (p : SlotIdx → Bool) (s t : State) : Prop where
  slots : ∀ k, t.slot n k = if p k = true ∧ (s.slot n k).state ≠ .free then (s.slot n k).ended else s.slot n k
  stages : ∀ i, t.stage i =
    (s.stage i).withdrawn fun m k => m == n && p k && (s.slot n k).state != .free
  order : t.stages.order =
    s.stages.order.filter fun i => (s.stage i).state == .free || (t.stage i).state != .free
  disks : ∀ d, ∃ lanes, t.disk d = { s.disk d with lanes := lanes }
  lanes : ∀ d, ∀ c : Class, (t.disk d).lanes[c.val] = (s.disk d).lanes[c.val].filter fun i =>
    (s.stage i).disk != d || (s.stage i).state == .free || (t.stage i).state != .free
  accounts : ∀ i o, (s.stage i).kind = .store → (s.stage i).waiters = [] → (s.stage i).state ≠ .free →
    (s.stage i).owner = some o → o.node = n → p o.slot = true → (s.slot n o.slot).state ≠ .free →
    (t.stage i).account =
      if (s.stage i).state = .queued ∨ (s.stage i).state = .retrying then 0 else (s.stage i).count
  inFlight : ∀ v, t.volume v =
    { s.volume v with
      inFlight := (s.volume v).inFlight -
        ((slotIdxs.filter fun k => p k && (s.slot n k).state != .free && (s.slot n k).volume == v).map fun k =>
          tableCount s.stages.table fun st => st.serves n k).sum }

/-- The stages that `gone` names, none of them FREE, have failed (R122, R123): they are freed; the requests with a piece
on one of them, and no others, have ended, their slots FREE and out of their wait lists; their pieces on other stages
are withdrawn (R81, R124, R125), stages freed by it have left their chains, each piece lowered its volume's pieces in
flight (R4), and each request of an UP node got one DONE. -/
structure StagesFailed (gone : StageIdx → Bool) (s t : State) : Prop where
  slots : ∀ n k, t.slot n k = if s.onStages gone n k then (s.slot n k).ended else s.slot n k
  waitLists : ∀ n, (t.desk n).waitList = (s.desk n).waitList.filter fun k => !s.onStages gone n k
  attempts : ∀ n, (t.desk n).attemptsDue = (s.desk n).attemptsDue
  failed : ∀ i, gone i = true → t.stage i = (s.stage i).emptied
  others : ∀ i, gone i = false → t.stage i = (s.stage i).withdrawn (s.onStages gone)
  order : t.stages.order =
    s.stages.order.filter fun i => (s.stage i).state == .free || (t.stage i).state != .free
  inFlight : (∀ i, gone i = true →
      (s.stage i).waiters.Pairwise fun w x => ¬(w.node = x.node ∧ w.slot = x.slot)) →
    ∀ v, t.volume v =
      { s.volume v with
        inFlight := (s.volume v).inFlight -
          (nodePorts.flatMap fun n =>
            (slotIdxs.filter fun k => s.onStages gone n k && (s.slot n k).volume == v).map fun k =>
              tableCount s.stages.table fun st => st.serves n k).sum }
  dones : (∀ i, gone i = true →
      (s.stage i).waiters.Pairwise fun w x => ¬(w.node = x.node ∧ w.slot = x.slot)) →
    ∀ n, (s.node n).state = .up → ∃ frames, (t.node n).out = (s.node n).out ++ frames ∧
      (frames.filter fun f => !f.noDone).length = (slotIdxs.filter fun k => s.onStages gone n k).length

/-- One arbiter pass is owed for the stages that became FREE from s to t, none where none did (R111). -/
def PassOwed (s t : State) : Prop :=
  t.stages.passesDue = s.stages.passesDue + (if s.freeStages < t.freeStages then 1 else 0)

/-- What a departure of node n leaves (R56): its record DOWN with silence count 0 and an empty outgoing list, its loans
in force RECALLED, its requests withdrawn with one arbiter pass owed for the stages that frees (R129), its locks FREE,
its claims gone, its retry count 0, NODE_DOWN raised; its meter, its tally, and the loans, slots, locks and retry
counts of other nodes as they were; other node links only gain frames. -/
structure Departed (n : NodePort) (s t : State) : Prop where
  down : (t.node n).state = .down
  silence : (t.node n).silence = 0
  out : (t.node n).out = []
  kept : (t.node n).manager = (s.node n).manager ∧ (t.node n).ceiling = (s.node n).ceiling ∧
    (t.node n).damaged = (s.node n).damaged
  loans : ∀ i, t.loanAt i =
    if (s.loanAt i).node = n ∧ (s.loanAt i).inForce = true then { s.loanAt i with state := .recalled, owed := false }
    else s.loanAt i
  slots : ∀ k, (t.slot n k).state = .free ∧ (t.slot n k).tag = (s.slot n k).tag
  work : Withdrawn n (fun _ => true) s t
  waitList : (t.desk n).waitList = []
  pass : PassOwed s t
  otherDesks : ∀ m, m ≠ n → t.desk m = s.desk m
  locks : ∀ k, t.lockAt k =
    if (s.lockAt k).state = .held ∧ (s.lockAt k).holder = n then { s.lockAt k with state := .free, owed := false }
    else s.lockAt k
  claims : n ∉ t.claimNodes
  retry : ∀ m, t.retryCount m = if m = n then 0 else s.retryCount m
  flag : t.flagSet (.nodeDown n) = true
  meter : t.meter = s.meter
  map : t.lending.map = s.lending.map
  settings : t.settings = s.settings
  otherNodes : ∀ m, m ≠ n → MoreFrames (s.node m) (t.node m)
  diskLinks : t.link.disks = s.link.disks
  disks : ∀ d, ∃ lanes, t.disk d = { s.disk d with lanes := lanes }

/-- What a loss of disk d leaves (R149, R123): every stage of the disk failed, and every request with a piece on one
with DISK_LOST, with one arbiter pass owed; its record ABSENT, not held, capacity 0, empty lanes and its depth, no
stage of the disk, DISK_DOWN raised if the disk was PRESENT; other stages and slots but for the failed requests'
pieces, loans, locks, meters, tallies, the map, other disk links, and the records of other disks but for their lanes,
as they were; node links only gain frames. -/
structure DiskLost (d : DiskPort) (s t : State) : Prop where
  record : t.disk d =
    { state := .absent, held := false, capacity := 0, depth := (s.disk d).depth, lanes := Vector.replicate 4 [] }
  stages : ∀ i, (t.stage i).state ≠ .free → (t.stage i).disk ≠ d
  present : (s.disk d).state = .present → t.flagSet (.diskDown d) = true
  absent : (s.disk d).state = .absent → t.management = s.management
  otherDisks : ∀ e, e ≠ d → ∃ lanes, t.disk e = { s.disk e with lanes := lanes }
  loan : t.loan = s.loan
  lock : t.lock = s.lock
  meters : t.meter = s.meter
  map : t.lending.map = s.lending.map
  nodes : ∀ n, MoreFrames (s.node n) (t.node n)
  otherLinks : ∀ e, e ≠ d → t.diskLink e = s.diskLink e
  work : StagesFailed (fun i => (s.stage i).disk == d && (s.stage i).state != .free) s t
  lanes : ∀ e, e ≠ d → LanesLeft e s t
  pass : PassOwed s t
  requests : ∀ i n k, (s.stage i).disk = d → (s.stage i).serves n k = true → RequestFailed n k .diskLost s t
  soleRequest : ∀ i n k, (s.stage i).disk = d → (∀ j, j ≠ i → (s.stage j).state = .free ∨ (s.stage j).disk ≠ d) →
    (s.stage i).serves n k = true → SoleRequestFailed i n k .diskLost s t

/-- What the end of node n's loan on volume v by lapse or revoke leaves (R37, R38): the node's requests on the volume
withdrawn, each with its DONE of the status in ascending slot order, its locks there FREE and its claims there gone;
its wait list in its order without them (R73, R85), with an attempt owed for a new head (R75; log entry 12), and one
arbiter pass owed for the stages that became FREE (log entry 29); its other slots, other nodes' requests, the retry
counts and the disk records but for their lanes as they were; node links only gain frames. -/
structure LoanEnded (n : NodePort) (v : Volume) (status : Status) (s t : State) : Prop where
  work : Withdrawn n (fun k => (s.slot n k).volume == v) s t
  dones : (s.node n).state = .up → ∃ before after, (t.node n).out =
    (s.node n).out ++ before ++
      ((slotIdxs.filter fun k => (s.slot n k).state != .free && (s.slot n k).volume == v).map fun k =>
        .done (s.slot n k).tag status (s.slot n k).delivered) ++ after ∧
    (before ++ after).all NodeFrame.noDone = true
  slots : ∀ k, (s.slot n k).volume = v → (t.slot n k).state = .free
  otherSlots : ∀ k, (s.slot n k).volume ≠ v → t.slot n k = s.slot n k
  waitList : (t.desk n).waitList =
    (s.desk n).waitList.filter fun k => (s.slot n k).state == .free || (s.slot n k).volume != v
  attempts : (t.desk n).attemptsDue =
    if (t.desk n).waitList = [] then 0
    else if t.headOf n = s.headOf n then (s.desk n).attemptsDue
    else (s.desk n).attemptsDue + 1
  pass : PassOwed s t
  otherDesks : ∀ m, m ≠ n → t.desk m = s.desk m
  locks : ∀ k, t.lockAt k =
    if (s.lockAt k).state = .held ∧ (s.lockAt k).holder = n ∧ (s.lockAt k).volume = v then
      { s.lockAt k with state := .free, owed := false }
    else s.lockAt k
  active : ∀ a, t.lock.active = some a → ¬(a.claim.node = n ∧ a.claim.volume = v)
  pending : ∀ c ∈ t.lock.pendingClaims, ¬(c.node = n ∧ c.volume = v)
  retry : t.lock.retry = s.lock.retry
  meter : t.meter = s.meter
  map : t.lending.map = s.lending.map
  nodes : ∀ m, MoreFrames (s.node m) (t.node m)
  diskLinks : t.link.disks = s.link.disks
  disks : ∀ d, ∃ lanes, t.disk d = { s.disk d with lanes := lanes }

/-- The header of a MANAGE command. -/
def headerOf : Instr → Option ManageHeader
  | .readEntrySettings h _ => some h
  | .readEntryPort h _ => some h
  | .readEntryDisk h _ => some h
  | .readEntryVolume h _ => some h
  | .readEntryMap h _ => some h
  | .readEntryLoan h _ => some h
  | .readEntryClassmap h _ => some h
  | .readEntryMeter h _ => some h
  | .readEntryTally h _ => some h
  | .readEntryStage h _ => some h
  | .readEntryLock h _ => some h
  | .readEntryLockout h _ => some h
  | .readEntryRequest h _ => some h
  | .readEntryNotice h _ => some h
  | .writeEntrySettings h _ _ => some h
  | .writeEntryPort h _ _ => some h
  | .writeEntryDisk h _ _ => some h
  | .writeEntryVolume h _ _ => some h
  | .writeEntryMap h _ _ => some h
  | .writeEntryClassmap h _ _ => some h
  | .writeEntryMeter h _ _ => some h
  | .writeEntryNotice h _ _ => some h
  | .writeEntryReadOnly h _ _ _ => some h
  | .grantLoan h _ _ _ _ => some h
  | .revokeLoan h _ => some h
  | .breakLock h _ => some h
  | .clearNotices h _ => some h
  | .restartPart h => some h
  | .restartPortNode h _ => some h
  | .restartPortDisk h _ => some h
  | .manageUnknownOperation h _ _ => some h
  | .powerOn | .damagedFrame _ | .unknownKindFrame _ | .idle _ | .diskIdle _ | .request _ _ | .renew _ _ | .hello _ _
  | .accept _ _ | .nak _ _ | .diskData _ _ _ _ | .diskDoneOk _ _ | .diskDoneError _ _ _ | .hold _ | .release _
  | .linkLossIndication _ | .frameSent _ | .portClockExpiry | .silenceLimit _ | .meterClockExpiry
  | .lendingClockExpiry | .loanDue _ | .lapse _ | .holdLimit _ | .lockoutTimer | .tallyPeriodEnd
  | .diskClockExpiry | .retryTimeout _ | .responseTimeout _ | .admissionAttempt _ | .arbiterPass | .send _ => none

/-- The operation byte that the reply to a MANAGE command carries (10.3); 0 for a command that is none. -/
def operationOf : Instr → Byte
  | .readEntrySettings _ _ | .readEntryPort _ _ | .readEntryDisk _ _ | .readEntryVolume _ _ | .readEntryMap _ _
  | .readEntryLoan _ _ | .readEntryClassmap _ _ | .readEntryMeter _ _ | .readEntryTally _ _ | .readEntryStage _ _
  | .readEntryLock _ _ | .readEntryLockout _ _ | .readEntryRequest _ _ | .readEntryNotice _ _ => 1
  | .writeEntrySettings _ _ _ | .writeEntryPort _ _ _ | .writeEntryDisk _ _ _ | .writeEntryVolume _ _ _
  | .writeEntryMap _ _ _ | .writeEntryClassmap _ _ _ | .writeEntryMeter _ _ _ | .writeEntryNotice _ _ _
  | .writeEntryReadOnly _ _ _ _ => 2
  | .grantLoan _ _ _ _ _ => 3
  | .revokeLoan _ _ => 4
  | .breakLock _ _ => 5
  | .clearNotices _ _ => 6
  | .restartPart _ => 7
  | .restartPortNode _ _ | .restartPortDisk _ _ => 8
  | .manageUnknownOperation _ operation _ => operation
  | .powerOn | .damagedFrame _ | .unknownKindFrame _ | .idle _ | .diskIdle _ | .request _ _ | .renew _ _ | .hello _ _
  | .accept _ _ | .nak _ _ | .diskData _ _ _ _ | .diskDoneOk _ _ | .diskDoneError _ _ _ | .hold _ | .release _
  | .linkLossIndication _ | .frameSent _ | .portClockExpiry | .silenceLimit _ | .meterClockExpiry
  | .lendingClockExpiry | .loanDue _ | .lapse _ | .holdLimit _ | .lockoutTimer | .tallyPeriodEnd
  | .diskClockExpiry | .retryTimeout _ | .responseTimeout _ | .admissionAttempt _ | .arbiterPass | .send _ => 0

/-- The bytes behind the last field of a command's frame are a part of it: the carried blocks of a REQUEST and the image
of a WRITE ENTRY (R187), and the operands of a MANAGE frame that is not servable, which are kept as they came. -/
def takesTrailing : Instr → Bool
  | .request _ _ => true
  | .writeEntrySettings _ _ _ | .writeEntryPort _ _ _ | .writeEntryDisk _ _ _ | .writeEntryVolume _ _ _
  | .writeEntryMap _ _ _ | .writeEntryClassmap _ _ _ | .writeEntryMeter _ _ _ | .writeEntryNotice _ _ _
  | .writeEntryReadOnly _ _ _ _ => true
  | .manageUnknownOperation _ _ _ => true
  | .readEntrySettings _ _ | .readEntryPort _ _ | .readEntryDisk _ _ | .readEntryVolume _ _ | .readEntryMap _ _
  | .readEntryLoan _ _ | .readEntryClassmap _ _ | .readEntryMeter _ _ | .readEntryTally _ _ | .readEntryStage _ _
  | .readEntryLock _ _ | .readEntryLockout _ _ | .readEntryRequest _ _ | .readEntryNotice _ _
  | .grantLoan _ _ _ _ _ | .revokeLoan _ _ | .breakLock _ _ | .clearNotices _ _ | .restartPart _
  | .restartPortNode _ _ | .restartPortDisk _ _
  | .powerOn | .damagedFrame _ | .unknownKindFrame _ | .idle _ | .diskIdle _ | .renew _ _ | .hello _ _
  | .accept _ _ | .nak _ _ | .diskData _ _ _ _ | .diskDoneOk _ _ | .diskDoneError _ _ _ | .hold _ | .release _
  | .linkLossIndication _ | .frameSent _ | .portClockExpiry | .silenceLimit _ | .meterClockExpiry
  | .lendingClockExpiry | .loanDue _ | .lapse _ | .holdLimit _ | .lockoutTimer | .tallyPeriodEnd
  | .diskClockExpiry | .retryTimeout _ | .responseTimeout _ | .admissionAttempt _ | .arbiterPass | .send _ => false

/-- The commands that POWER_ON, WRITE ENTRY of MAP and nothing else are: the two that replace an unrecoverable map
entry (R10, R19). -/
def replacesMap : Instr → Bool
  | .powerOn => true
  | .writeEntryMap _ _ _ => true
  | _ => false

/-- The form that R70's first check asks of a REQUEST. -/
def GoodForm (f : RequestFrame) (kind : ReqKind) : Prop :=
  ReqKind.ofCode f.kind.toNat = some kind ∧ 1 ≤ f.length.toNat ∧ f.length.toNat ≤ 64 ∧ f.hint.toNat ≤ 7 ∧
    f.offset.toNat + f.length.toNat - 1 ≤ 2 ^ 32 - 1 ∧ f.partialBytes = 0 ∧
    (kind.isWrite = true → f.blocks.length = f.length.toNat) ∧ (kind.isWrite = false → f.blocks = []) ∧
    (kind.isLock = true → f.offset.toNat / 8 = (f.offset.toNat + f.length.toNat - 1) / 8)

/-- The fields a read of the entry yields under its check code, where it yields some (R17). -/
def MapEntry.readFields (e : MapEntry) : Extent :=
  match e.condition with
  | .recoverable original => original
  | _ => e.stored

/-- The entry after a read that yields CLEAN or CORRECTED: scrubbed, with its outcome (R17, R18). -/
def MapEntry.scrubbed (e : MapEntry) : MapEntry :=
  { stored := e.readFields, condition := .intact, outcome := if e.condition = .intact then .clean else .corrected }

/-- MAP_CORRECTED after the reads of the entries f to f + m - 1, none of them unrecoverable (R18): where one was not
intact the flag is set, with the last such index as its detail; where all were intact flag and detail are as before. -/
def CorrectedNotified (f m : Nat) (s t : State) : Prop :=
  (∀ j : MapIdx, f ≤ j.val → j.val < f + m → (s.mapEntry j).condition ≠ .intact →
    t.flagSet .mapCorrected = true ∧
      ((∀ l : MapIdx, j.val < l.val → l.val < f + m → (s.mapEntry l).condition = .intact) →
        t.management.mapCorrectedDetail = j.val)) ∧
  ((∀ j : MapIdx, f ≤ j.val → j.val < f + m → (s.mapEntry j).condition = .intact) →
    t.flagSet .mapCorrected = s.flagSet .mapCorrected ∧
      t.management.mapCorrectedDetail = s.management.mapCorrectedDetail)

/-- The conditions of R7 over the fields of a map image (10.6), any of which refuses it. -/
def MapImageRefused (b : List Byte) : Prop :=
  let u := field b 2 1
  let w := field b 3 1
  let base := field b 4 4
  let length := field b 8 4
  let d := field b 12 4
  ¬(u = 1 ∨ u = 2 ∨ u = 4 ∨ u = 8 ∨ u = 16) ∨ w = 0 ∨ 8 < w ∨
    (∃ j, j < w ∧ 15 < field b (16 + j) 1) ∨
    (∃ i j, i < j ∧ j < w ∧ field b (16 + i) 1 = field b (16 + j) 1) ∨
    length = 0 ∨ 2 ^ 24 < length ∨ 2 ^ 29 < base + length ∨
    2 ^ 29 < d + (length + u * w - 1) / (u * w) * u ∨
    1 < field b 0 1 ∨ 2 ^ 29 - 1 < base ∨ 2 ^ 29 - 1 < d

/-- The head, slot k of node n, has been refused with a status (R78): a DONE with block count 0, the slot FREE, and
nothing else changed. -/
def HeadRefused (n : NodePort) (k : SlotIdx) (status : Status) (s t : State) : Prop :=
  t.slot n k = (s.slot n k).ended ∧ (∀ l, l ≠ k → t.slot n l = s.slot n l) ∧ (∀ m, m ≠ n → t.desk m = s.desk m) ∧
    (t.desk n).waitList = (s.desk n).waitList.filter (· != k) ∧
    (t.node n).out = (s.node n).out ++ [.done (s.slot n k).tag status 0] ∧ (∀ m, m ≠ n → t.node m = s.node m) ∧
    t = { s with link := { s.link with nodes := t.link.nodes }, admission := t.admission }

/-- A RETRY of a LOCKREAD has been counted and judged for a claim (R163, R164). -/
def RetryCounted (c : Claim) (s t : State) : Prop :=
  (∀ m, t.retryCount m = if m = c.node then min 15 (s.retryCount m + 1) else s.retryCount m) ∧
    t.lock.locks = s.lock.locks ∧
    (if min 15 (s.retryCount c.node + 1) < s.settings.lockoutLimit ∨ (s.volume c.volume).lockoutEnable = false then
      t.lock.active = s.lock.active ∧ t.lock.pendingClaims = s.lock.pendingClaims ∧ t.management = s.management
    else
      match s.lock.active with
      | none =>
        t.lock.active = some { claim := c, timer := s.settings.lockoutTime } ∧
          t.lock.pendingClaims = s.lock.pendingClaims ∧ t.flagSet .lockout = true ∧
          ∀ g, g ≠ .lockout → t.flagSet g = s.flagSet g
      | some a =>
        t.lock.active = some a ∧ t.management = s.management ∧
          t.lock.pendingClaims =
            if a.claim.node = c.node ∨ (∃ x ∈ s.lock.pendingClaims, x.node = c.node) ∨
                4 ≤ s.lock.pendingClaims.length then s.lock.pendingClaims
            else s.lock.pendingClaims ++ [c]) ∧
    (∀ m, MoreFrames (s.node m) (t.node m)) ∧
    t = { s with link := { s.link with nodes := t.link.nodes }, lock := t.lock, management := t.management }

/-- The lockout has been handed over from a waiting list of claims (R167): the first whose node holds a SHARED-UPDATE
loan in force on its volume has left the list and is active with a fresh timer, those before it are discarded, and with
none that passes no claim is left. -/
def HandedOver (waiting : List Claim) (s t : State) : Prop :=
  ((∀ c ∈ waiting, s.sharesVolume c.volume c.node = false) → t.lock.active = none ∧ t.lock.pendingClaims = []) ∧
    ∀ before c after, waiting = before ++ c :: after →
      (∀ x ∈ before, s.sharesVolume x.volume x.node = false) → s.sharesVolume c.volume c.node = true →
      t.lock.active = some { claim := c, timer := s.settings.lockoutTime } ∧ t.lock.pendingClaims = after ∧
        t.flagSet .lockout = true

/-- Node n has taken the lock on granule g of volume v (R156): in the lowest FREE entry, with its retry count 0; its
active claim on the granule ended with a handoff, and its pending one there left the list. -/
def LockTaken (n : NodePort) (v : Volume) (g : Nat) (s t : State) : Prop :=
  (∃ j, (s.lockAt j).state = .free ∧ (∀ l, l < j → (s.lockAt l).state ≠ .free) ∧
    t.lockAt j = { state := .held, volume := v, granule := g, holder := n, age := 0, owed := false } ∧
    ∀ l, l ≠ j → t.lockAt l = s.lockAt l) ∧
  (∀ m, t.retryCount m = if m = n then 0 else s.retryCount m) ∧
  ((∀ a, s.lock.active = some a → a.claim ≠ { node := n, volume := v, granule := g }) →
    t.lock.active = s.lock.active ∧
      t.lock.pendingClaims = s.lock.pendingClaims.filter (· != { node := n, volume := v, granule := g })) ∧
  ∀ a, s.lock.active = some a → a.claim = { node := n, volume := v, granule := g } →
    HandedOver (s.lock.pendingClaims.filter (· != { node := n, volume := v, granule := g })) s t

/-- After the earlier pieces of its request, piece p would create a stage of its own (R76): a write piece always does,
and a read piece unless it could join the tail of its chain under the conditions of R114. -/
def NeedsStage (s : State) (n : NodePort) (k : SlotIdx) (kind : ReqKind) (earlier : List Piece) (p : Piece) : Prop :=
  kind = .write ∨ kind = .unlockwrite ∨ (∃ q ∈ earlier, q.disk = p.disk ∧ q.diskGranule = p.diskGranule) ∨
    ¬∃ i, (s.chain p.disk p.diskGranule).getLast? = some i ∧ (s.stage i).kind = .fetch ∧
      ((s.stage i).state = .queued ∨ (s.stage i).state = .sent ∨ (s.stage i).state = .accepted) ∧
      (s.stage i).abandoned = false ∧ (s.stage i).waiters.length < 8 ∧
      ∀ w ∈ (s.stage i).waiters, ¬(w.node = n ∧ w.slot = k)

/-- The head of the node's wait list is slot k, and its attempt passes the meter, the loan and the volume (R74). -/
structure HeadReaches (s : State) (n : NodePort) (k : SlotIdx) : Prop where
  head : s.headOf n = some k
  credit : (s.meterOf n).short (s.slot n k).length = false
  loan : loanCheck (s.slot n k).volume n (s.slot n k).kind s = none
  volume : (s.volume (s.slot n k).volume).state = .online

/-- The translation of the request in slot k of node n (R16). -/
def State.translated (s : State) (n : NodePort) (k : SlotIdx) : State × Except Status (List Piece) :=
  translateAll (s.slot n k).kind (s.slot n k).volume (cutRequest (s.slot n k).offset (s.slot n k).length) s

/-- The head of the node's wait list is slot k, and every question of its attempt is passed (R74): s' is the state
after the map reads of its translation, ps its pieces. -/
structure HeadPasses (s : State) (n : NodePort) (k : SlotIdx) (s' : State) (ps : List Piece) : Prop where
  head : s.headOf n = some k
  credit : (s.meterOf n).short (s.slot n k).length = false
  loan : loanCheck (s.slot n k).volume n (s.slot n k).kind s = none
  volume : (s.volume (s.slot n k).volume).state = .online
  translated :
    translateAll (s.slot n k).kind (s.slot n k).volume (cutRequest (s.slot n k).offset (s.slot n k).length) s =
      (s', .ok ps)
  locks : lockCheck (s.slot n k).kind n (s.slot n k).volume ((s.slot n k).offset / 8) s' = none
  stages : stagesNeeded s' n k (s.slot n k).kind ps [] ≤ s'.freeStages

end Sys2Proof.Machine
end

