-- ==== Sys2Proof/WellFormed.lean ====
section
/-! DEFINITION. Which commands a link can bring: what the constructors of `Instr` allow beyond the spec's frames is
refused here, check by check. `exec` answers for ill-formed commands too, by the same rules. -/

namespace Sys2Proof

/-- The bytes behind a REQUEST's whole blocks are fewer than a block (R189). -/
def RequestFrame.wellFormed (f : RequestFrame) : Bool := decide (f.partialBytes < 4096)

/-- A command that a frame or a step of the part can be. -/
def Instr.wellFormed : Instr → Bool
  | .request _ f => f.wellFormed
  -- a disk DONE with result 0 is DONE OK (10.5)
  | .diskDoneError _ result _ => result != 0
  -- a MANAGE frame that passes checks 2 and 3 of R171 is another command
  | .manageUnknownOperation _ operation operands => !Machine.servable operation operands
  | .powerOn | .damagedFrame _ | .unknownKindFrame _ | .idle _ | .diskIdle _ | .renew _ _ | .hello _ _
  | .accept _ _ | .nak _ _ | .diskData _ _ _ _ | .diskDoneOk _ _ | .hold _ | .release _
  | .linkLossIndication _ | .frameSent _ | .portClockExpiry | .silenceLimit _ | .meterClockExpiry
  | .lendingClockExpiry | .loanDue _ | .lapse _ | .holdLimit _ | .lockoutTimer | .tallyPeriodEnd
  | .diskClockExpiry | .retryTimeout _ | .responseTimeout _ | .admissionAttempt _ | .arbiterPass | .send _
  | .readEntrySettings _ _ | .readEntryPort _ _ | .readEntryDisk _ _ | .readEntryVolume _ _
  | .readEntryMap _ _ | .readEntryLoan _ _ | .readEntryClassmap _ _ | .readEntryMeter _ _
  | .readEntryTally _ _ | .readEntryStage _ _ | .readEntryLock _ _ | .readEntryLockout _ _
  | .readEntryRequest _ _ | .readEntryNotice _ _ | .writeEntrySettings _ _ _ | .writeEntryPort _ _ _
  | .writeEntryDisk _ _ _ | .writeEntryVolume _ _ _ | .writeEntryMap _ _ _ | .writeEntryClassmap _ _ _
  | .writeEntryMeter _ _ _ | .writeEntryNotice _ _ _ | .writeEntryReadOnly _ _ _ _ | .grantLoan _ _ _ _ _
  | .revokeLoan _ _ | .breakLock _ _ | .clearNotices _ _ | .restartPart _ | .restartPortNode _ _
  | .restartPortDisk _ _ => true

end Sys2Proof
end

