-- ==== Sys2Proof/Certificates/Slice0/Obligations.lean ====
section
/-! DEFINITION. The statements for the provers, family by family. -/

open Sys2Proof Sys2Proof.Machine

/-! ## The block as a whole -/

/-- A step with command c at the front of the queue is c's meaning on the state with the queue's rest. The queue is
the model's (log entry 24). -/
def Obligations.StepRunsFrontCommand : Prop :=
  ∀ (c : Instr) (rest : List Instr) (s : State),
    step { s with pending := c :: rest } = exec c { s with pending := rest }

/-- POWER_ON: every record of every block, the settings, class map, flags, details and masks, and the four clocks take
the values of the Power-on columns (R1, R6, R25, R47, R68, R90, R104, R106, R131, R153, R169, R170, R175). The queue
and the count of free values, which are the model's, are kept (log entry 18); its other own fields are log entries 2,
5, 12 and 13, and the condition of a map entry is log entry 4. -/
def Obligations.PowerOnGivesPowerOnValues : Prop :=
  ∀ s : State, ∃ t, exec .powerOn s = .next t ∧ t.pending = s.pending ∧ t.draws = s.draws ∧
    (∀ n, t.node n =
      { state := .down, manager := decide (n = 0), ceiling := 3, silence := 0, damaged := 0, out := [],
        finishing := none, produced := false, owed := false }) ∧
    (∀ d, t.diskLink d =
      { state := .down, silence := 0, damaged := 0, out := [], finishing := none, produced := false,
        owed := false }) ∧
    (∀ n k, t.slot n k =
      { state := .free, tag := 0, kind := .read, volume := 0, offset := 0, length := 1, cls := 0, waitFor := .none,
        outstanding := 0, delivered := 0, held := 0, data := [] }) ∧
    (∀ n, (t.desk n).waitList = [] ∧ (t.desk n).attemptsDue = 0) ∧
    (∀ v, t.volume v = { state := .offline, first := 0, extents := 0, lockoutEnable := false, inFlight := 0 }) ∧
    (∀ i, t.mapEntry i =
      { stored :=
          { valid := false, volume := 0, base := 0, length := 1, unit := 1, width := 1,
            disks := #v[0, 0, 0, 0, 0, 0, 0, 0], diskBase := 0 },
        condition := .intact, outcome := .clean }) ∧
    (∀ i, t.loanAt i = { state := .free, volume := 0, node := 0, mode := .read, term := 0, age := 0, owed := false }) ∧
    (∀ n, t.meterOf n = { whole := 0, fraction := 0, burst := 1024, credit := 1024, spread := 0 }) ∧
    (∀ n, t.tallyOf n =
      { cumRead := 0, cumWritten := 0, perRead := 0, perWritten := 0, snapRead := 0, snapWritten := 0, ready := false,
        overrun := false }) ∧
    t.meter.periodCount = 0 ∧ t.meter.periodOwed = false ∧
    (∀ i, t.stage i =
      { state := .free, abandoned := false, kind := .fetch, disk := 0, granule := 0, generation := 0, tag := 0,
        cls := 0, lead := 0, first := 0, count := 0, waiters := [], owner := none, arrived := 0, sendAge := 0,
        acceptAge := 0, buffer := #v[none, none, none, none, none, none, none, none], data := [], owed := false }) ∧
    t.stages.order = [] ∧ t.stages.lastServed = 31 ∧ t.stages.passesDue = 0 ∧
    (∀ d, t.disk d = { state := .absent, held := false, capacity := 0, depth := 4, lanes := #v[[], [], [], []] }) ∧
    (∀ k, t.lockAt k = { state := .free, volume := 0, granule := 0, holder := 0, age := 0, owed := false }) ∧
    (∀ n, t.retryCount n = 0) ∧ t.lock.active = none ∧ t.lock.pendingClaims = [] ∧ t.lock.timerOwed = false ∧
    t.settings =
      { portReload := 9, meterReload := 99, lendingReload := 999, scale := .normal, silenceLimit := 50, holdLimit := 5,
        lockoutLimit := 6, lockoutTime := 3, tallyPeriod := 10, responseTimeout := 12, retryTimeout := 15,
        timeoutsDisabled := false } ∧
    t.management.classMap = #v[0, 1, 1, 1, 2, 2, 2, 3] ∧
    (∀ f, t.flagSet f = false ∧ t.detailOf f = 0 ∧
      t.maskOn f =
        match f with
        | .nodeDown _ | .diskDown _ | .mapFault | .mapLoss | .lockBroken => true
        | _ => false) ∧
    t.link.clock = { running := 9, expiries := 0 } ∧ t.meter.clock = { running := 99, expiries := 0 } ∧
    t.loan.clock = { running := 999, expiries := 0 } ∧ t.dispatch.clock = { running := .normal, expiries := 0 }

/-! ## Laws that every step keeps -/

/-- Every step keeps a manager port (R63). -/
def Obligations.EveryStepKeepsAManagerPort : Prop :=
  ∀ s t : State, s.ManagerLaw → step s = .next t → t.ManagerLaw

/-- Every step keeps each node's credit within its burst (R93). -/
def Obligations.EveryStepKeepsCreditWithinBurst : Prop :=
  ∀ s t : State, s.CreditLaw → step s = .next t → t.CreditLaw

/-- Every step keeps the two laws of the loan table (R25, R29). -/
def Obligations.EveryStepKeepsLoanLaws : Prop :=
  ∀ s t : State, s.LoanPairLaw → s.LoanModeLaw → step s = .next t → t.LoanPairLaw ∧ t.LoanModeLaw

/-- Every step keeps the tags of a node's slots in use apart and its wait list WAITING (R69, R73), and keeps the law of
waiter lists and owners: at most 8 waiters of a stage, no request twice, none only when abandoned (R116). -/
def Obligations.EveryStepKeepsSlotLaw : Prop :=
  (∀ s t : State, s.SlotLaw → step s = .next t → t.SlotLaw) ∧
  ∀ s t : State, s.WaiterLaw → step s = .next t → t.WaiterLaw

/-- Every step keeps each disk's outstanding count at 8 or below (R132), with the lanes of R135, and keeps a stage at
its disk the head of its granule's chain, so one at most for each disk granule (R112, R113). -/
def Obligations.EveryStepKeepsDiskLaw : Prop :=
  (∀ s t : State, s.DiskLaw → step s = .next t → t.DiskLaw) ∧
  ∀ s t : State, s.ChainLaw → step s = .next t → t.ChainLaw

/-- Every step keeps the law of granule locks (R154), and the law of lockout claims: at most 4 pending, no node twice
among the active and pending ones, and none pending without an active one (8.6, R164, R167). -/
def Obligations.EveryStepKeepsLockLaw : Prop :=
  (∀ s t : State, s.LockLaw → step s = .next t → t.LockLaw) ∧
  ∀ s t : State, s.ClaimLaw → step s = .next t → t.ClaimLaw

/-- The laws hold right after power-on. -/
def Obligations.LawsHoldAtReset : Prop :=
  State.reset.ManagerLaw ∧ State.reset.CreditLaw ∧ State.reset.LoanPairLaw ∧ State.reset.LoanModeLaw ∧
    State.reset.SlotLaw ∧ State.reset.DiskLaw ∧ State.reset.LockLaw ∧ State.reset.WaiterLaw ∧
    State.reset.ChainLaw ∧ State.reset.ClaimLaw

/-- A set flag stays set through every command but POWER_ON and CLEAR NOTICES (R178). -/
def Obligations.FlagsStaySetUntilCleared : Prop :=
  ∀ (c : Instr) (s : State) (f : Flag), c ≠ .powerOn → (∀ h selection, c ≠ .clearNotices h selection) →
    s.flagSet f = true → ∃ t, exec c s = .next t ∧ t.flagSet f = true

/-- Settings, class map and masks change at POWER_ON and at the WRITE ENTRY of their own table alone (R170, R176). -/
def Obligations.LoadedTablesChangeByTheirWritesAlone : Prop :=
  ∀ (c : Instr) (s : State), c ≠ .powerOn → ∃ t, exec c s = .next t ∧
    ((∀ h i b, c ≠ .writeEntrySettings h i b) → t.settings = s.settings) ∧
    ((∀ h i b, c ≠ .writeEntryClassmap h i b) → t.management.classMap = s.management.classMap) ∧
    ((∀ h i b, c ≠ .writeEntryNotice h i b) → t.management.masks = s.management.masks)

/-- R10: a part restart keeps every map entry; a port restart does not touch the map; an unrecoverable entry is
replaced by POWER_ON and by a WRITE ENTRY of MAP alone. The condition `lost` is the model's form of a check code that
no longer recovers the entry (log entry 4). -/
def Obligations.RestartsKeepTheMap : Prop :=
  (∀ (h : ManageHeader) (s : State), ∃ t, exec (.restartPart h) s = .next t ∧ t.lending.map = s.lending.map) ∧
  (∀ (h : ManageHeader) (p : Byte) (s : State),
    (∃ t, exec (.restartPortNode h p) s = .next t ∧ t.lending.map = s.lending.map) ∧
    ∃ t, exec (.restartPortDisk h p) s = .next t ∧ t.lending.map = s.lending.map) ∧
  ∀ (c : Instr) (s : State) (i : MapIdx), replacesMap c = false → (s.mapEntry i).condition = .lost →
    ∃ t, exec c s = .next t ∧ (t.mapEntry i).stored = (s.mapEntry i).stored ∧ (t.mapEntry i).condition = .lost

/-! ## Frames and links -/

/-- The bytes of a good frame give back the command they carry, on the link it arrives on: no field of a layout is
dropped (R187 to R189, 10.1 to 10.5). The mark handedOn of a MANAGE command, which no frame carries, is false here (log
entry 6). Bytes behind the last field are ignored, but for the blocks of a REQUEST and the image of a WRITE ENTRY
(R187). R50, R51, R189: a good frame of an unknown kind, or shorter than the fixed length of its kind, is a frame of
unknown kind, and so is one with no byte before its check (log entry 17). -/
def Obligations.GoodFramesGiveTheirCommand : Prop :=
  (∀ (c : Instr) (l : Link) (body : List Byte), c.wellFormed = true →
    (∀ h, headerOf c = some h → h.handedOn = false) → frameBody c = some (l, body) →
    commandOfFrame l (withCheck body) = c) ∧
  (∀ (c : Instr) (l : Link) (body trailing : List Byte), c.wellFormed = true →
    (∀ h, headerOf c = some h → h.handedOn = false) → takesTrailing c = false → frameBody c = some (l, body) →
    commandOfFrame l (withCheck (body ++ trailing)) = c) ∧
  (∀ (l : Link), commandOfFrame l (withCheck []) = .unknownKindFrame l) ∧
  (∀ (n : NodePort) (kind : Byte) (rest : List Byte),
    kind.toNat < 0x20 ∨ 0x23 < kind.toNat ∨ kind = 0x21 ∧ rest.length + 1 < 12 ∨ kind = 0x22 ∧ rest.length + 1 < 2 ∨
      kind = 0x23 ∧ rest.length + 1 < 4 →
    commandOfFrame (.node n) (withCheck (kind :: rest)) = .unknownKindFrame (.node n)) ∧
  ∀ (d : DiskPort) (kind : Byte) (rest : List Byte),
    kind.toNat < 0x60 ∨ 0x67 < kind.toNat ∨ kind = 0x61 ∧ rest.length + 1 < 8 ∨
      (kind = 0x62 ∨ kind = 0x63 ∨ kind = 0x65) ∧ rest.length + 1 < 4 ∨ kind = 0x64 ∧ rest.length + 1 < 4100 →
    commandOfFrame (.disk d) (withCheck (kind :: rest)) = .unknownKindFrame (.disk d)

/-- R48: a frame whose check fails is damaged; it raises the link's damaged frames count, which stays at 65535, and
has no other effect. That a frame of fewer than 4 bytes is damaged is the model's choice (log entry 17). -/
def Obligations.DamagedFramesAreOnlyCounted : Prop :=
  (∀ l bytes, checkPasses bytes = false → commandOfFrame l bytes = .damagedFrame l) ∧
  (∀ n s, ∃ t, exec (.damagedFrame (.node n)) s = .next t ∧
    t.node n = { s.node n with damaged := min 65535 ((s.node n).damaged + 1) } ∧ (∀ m, m ≠ n → t.node m = s.node m) ∧
    t = { s with link := { s.link with nodes := t.link.nodes } }) ∧
  ∀ d s, ∃ t, exec (.damagedFrame (.disk d)) s = .next t ∧
    t.diskLink d = { s.diskLink d with damaged := min 65535 ((s.diskLink d).damaged + 1) } ∧
    (∀ e, e ≠ d → t.diskLink e = s.diskLink e) ∧ t = { s with link := { s.link with disks := t.link.disks } }

/-- R49, R50, R51: a good frame that goes to no block sets the silence count to 0; a DOWN link goes UP, a node link
with its NODE_UP member raised. Every frame of a DOWN node link is served as on the link that has just gone UP. -/
def Obligations.GoodFramesResetSilenceAndBringLinksUp : Prop :=
  ∀ (s : State) (n : NodePort) (d : DiskPort),
    ((s.node n).state = .up →
      exec (.idle n) s = .next (heardOn n s) ∧ exec (.unknownKindFrame (.node n)) s = .next (heardOn n s)) ∧
    ((s.node n).state = .down →
      let t := raiseFlag (.nodeUp n) 0 (s.setNode n { s.node n with silence := 0, state := .up })
      (t.node n).state = .up ∧ (t.node n).silence = 0 ∧ t.flagSet (.nodeUp n) = true ∧
      exec (.idle n) s = .next t ∧ exec (.unknownKindFrame (.node n)) s = .next t ∧
      (∀ v, exec (.renew n v) s = exec (.renew n v) t) ∧ (∀ f, exec (.request n f) s = exec (.request n f) t) ∧
      ∀ c h, headerOf c = some h → h.port = n → h.handedOn = false → exec c s = exec c t) ∧
    exec (.diskIdle d) s = .next (heardFrom d s) ∧ exec (.unknownKindFrame (.disk d)) s = .next (heardFrom d s)

/-- R59, R61: the link finishes the frame it had begun before its list was emptied, else the frame at the head of its
list, which leaves the list; with neither, nothing happens. That a frame can be left to finish is the model's reading
of R61 (log entry 5). R187, R188, R189 and 10.1 to 10.5: what goes over the link for each frame is its kind code, its
fields at their offsets with their widths, most significant byte first, and codes, reserved bytes 0, with the frame
check behind them. -/
def Obligations.FramesLeaveInOrderOfProduction : Prop :=
  (∀ (n : NodePort) (s : State) (f : NodeFrame) (rest : List NodeFrame),
    ((s.node n).finishing = some f →
      exec (.frameSent (.node n)) s = .next (s.setNode n { s.node n with finishing := none })) ∧
    ((s.node n).finishing = none → (s.node n).out = f :: rest →
      exec (.frameSent (.node n)) s = .next (s.setNode n { s.node n with out := rest })) ∧
    ((s.node n).finishing = none → (s.node n).out = [] → exec (.frameSent (.node n)) s = .next s)) ∧
  (∀ (d : DiskPort) (s : State) (f : DiskFrame) (rest : List DiskFrame),
    ((s.diskLink d).finishing = some f →
      exec (.frameSent (.disk d)) s = .next (s.setDiskLink d { s.diskLink d with finishing := none })) ∧
    ((s.diskLink d).finishing = none → (s.diskLink d).out = f :: rest →
      exec (.frameSent (.disk d)) s = .next (s.setDiskLink d { s.diskLink d with out := rest })) ∧
    ((s.diskLink d).finishing = none → (s.diskLink d).out = [] → exec (.frameSent (.disk d)) s = .next s)) ∧
  (∀ (f : NodeFrame) (g : DiskFrame) (w v : Nat),
    f.bytes = f.body ++ beBytes 4 (frameCheck f.body).toNat ∧ g.bytes = g.body ++ beBytes 4 (frameCheck g.body).toNat ∧
    frameCheck [0x31, 0x32, 0x33, 0x34, 0x35, 0x36, 0x37, 0x38, 0x39] = 0xCBF43926 ∧ (beBytes w v).length = w ∧
    (∀ j, j < w → (beBytes w v)[j]? = some (BitVec.ofNat 8 (v / 256 ^ (w - 1 - j)))) ∧
    (NodeFrame.idle).body = [0x30] ∧ (DiskFrame.idle).body = [0x50] ∧ (DiskFrame.drop).body = [0x53]) ∧
  (∀ (tag : Tag) (granule count first : Nat) (index : BlockIdx) (block : Block) (status : Status),
    (NodeFrame.data tag granule index block).body = ([0x31] : List Byte) ++ beBytes 1 index.val ++
      beBytes 2 tag.toNat ++ beBytes 4 granule ++ beBytes 4096 block.toNat ∧
    ((NodeFrame.data tag granule index block).body).length = 4104 ∧
    (NodeFrame.done tag status count).body = ([0x32, BitVec.ofNat 8 status.code] : List Byte) ++
      beBytes 2 tag.toNat ++ beBytes 1 count ++ ([0, 0, 0] : List Byte) ∧
    (∀ (t : Nat) (blocks : List Block),
      (DiskFrame.fetch t granule first).body = ([0x51] : List Byte) ++ beBytes 1 first ++ beBytes 2 t ++
        beBytes 4 granule ∧
      (DiskFrame.store t granule first count blocks).body = ([0x52] : List Byte) ++ beBytes 1 first ++ beBytes 2 t ++
        beBytes 4 granule ++ beBytes 1 count ++ ([0, 0, 0] : List Byte) ++
        (blocks.map fun b => beBytes 4096 b.toNat).flatten ∧
      ((DiskFrame.store t granule first count blocks).body).length = 12 + 4096 * blocks.length)) ∧
  (∀ (v : Volume) (state : NoticeState) (l : LoanDetail) (tag : Tag) (operation table : Byte) (index : BitVec 16)
     (status : ReplyStatus) (image : List Byte) (f : Machine.Flag) (detail : Nat) (flags : FlagImage),
    (NodeFrame.loanNotice v state (some l)).body = ([0x33, BitVec.ofNat 8 state.code] : List Byte) ++
      beBytes 1 v.val ++ ([match l.mode with | .read => 0 | .write => 1 | .sharedUpdate => 2] : List Byte) ++
      beBytes 2 l.index.val ++ beBytes 2 l.term ++ beBytes 2 l.age ∧
    (NodeFrame.loanNotice v state none).body = ([0x33, BitVec.ofNat 8 state.code] : List Byte) ++ beBytes 1 v.val ++
      ([0, 0, 0, 0, 0, 0, 0] : List Byte) ∧
    (NodeFrame.manageReply tag operation status table index image).body = ([0x34, operation] : List Byte) ++
      beBytes 2 tag.toNat ++ ([BitVec.ofNat 8 status.code, table] : List Byte) ++ beBytes 2 index.toNat ++ image ∧
    (NodeFrame.notice f detail flags).body = ([0x35] : List Byte) ++ beBytes 1 f.code ++ beBytes 1 f.member ++
      ([0] : List Byte) ++ beBytes 2 detail ++ flagImageBytes flags ∧
    ((NodeFrame.notice f detail flags).body).length = 23) ∧
  ∀ (n : NodePort) (d : DiskPort),
    (([.ok, .malformed, .busy, .noVolume, .noLoan, .notPermitted, .range, .mapFault, .diskLost, .diskError, .timeout,
        .loanLapsed, .loanRevoked, .retry, .lockHeld, .lockLost, .aborted] : List Status).map Status.code =
      List.range 17) ∧
    (([.ok, .okCorrected, .badTable, .badIndex, .badValue, .readOnly, .conflict, .duplicate, .tableFull, .mapFault,
        .notPermitted, .notFound] : List ReplyStatus).map ReplyStatus.code = List.range 12) ∧
    (([.active, .due, .lapsed, .recalled, .revoked, .none] : List NoticeState).map NoticeState.code = List.range 6) ∧
    (([.nodeUp n, .nodeDown n, .diskUp d, .diskDown d, .diskTimeout d, .diskError d, .loanLapse, .mapCorrected,
        .mapFault, .mapLoss, .lockBroken, .lockout, .tallyReady] : List Machine.Flag).map fun f =>
          (f.code, f.member, f.number)) =
      [(0, n.val, n.val), (1, n.val, 32 + n.val), (2, d.val, 64 + d.val), (3, d.val, 80 + d.val),
        (4, d.val, 96 + d.val), (5, d.val, 112 + d.val), (6, 0, 128), (7, 0, 129), (8, 0, 130), (9, 0, 131),
        (10, 0, 132), (11, 0, 133), (12, 0, 134)]

/-- R178, R179: a raise sets the flag and no other, records the detail of a flag that carries one, and, where the flag
was clear and its mask is enabled, adds one NOTICE frame to each UP manager port; nothing else changes. -/
def Obligations.RaisedFlagsAreSetAndNotified : Prop :=
  ∀ (f : Flag) (x : Nat) (s : State),
    let t := raiseFlag f x s
    t.flagSet f = true ∧ (∀ g, g ≠ f → t.flagSet g = s.flagSet g ∧ t.detailOf g = s.detailOf g) ∧
    ((f = .loanLapse ∨ f = .mapCorrected ∨ f = .mapFault ∨ f = .mapLoss) → t.detailOf f = x) ∧
    t.management.masks = s.management.masks ∧ t.settings = s.settings ∧
    t.management.classMap = s.management.classMap ∧
    (∀ n, t.node n =
      if s.flagSet f = false ∧ s.maskOn f = true ∧ (s.node n).state = .up ∧ (s.node n).manager = true then
        { s.node n with out := (s.node n).out ++ [.notice f (t.detailOf f) t.management.flags], produced := true }
      else s.node n) ∧
    t = { s with link := { s.link with nodes := t.link.nodes }, management := t.management }

/-- R52, R53, R62: at a port clock expiry with no step of an earlier one owed, each UP link below its last count before
the limit counts one more, an UP link at it is left to its own step, and each link with no frame since the last expiry
gets one IDLE. With steps owed, the expiry takes them first, nodes before disks. That the limit is a step of its own,
and that an expiry takes the steps still owed first, is the model's choice (log entry 2). At a limit of 1 a link whose
frame was taken just before is at its last count too: the model follows R53 there, where R55 has it stay UP (log entry
31). -/
def Obligations.PortExpiryCountsSilenceAndSendsIdle : Prop :=
  (∀ s : State, (∀ n, (s.node n).owed = false) → (∀ d, (s.diskLink d).owed = false) →
    ∃ t, exec .portClockExpiry s = .next t ∧
      (∀ n, t.node n =
        { s.node n with
          silence :=
            if (s.node n).state = .up ∧ (s.node n).silence + 1 < s.settings.silenceLimit then (s.node n).silence + 1
            else (s.node n).silence
          owed := decide ((s.node n).state = .up ∧ s.settings.silenceLimit ≤ (s.node n).silence + 1)
          out := if (s.node n).produced then (s.node n).out else (s.node n).out ++ [.idle]
          produced := false }) ∧
      (∀ d, t.diskLink d =
        { s.diskLink d with
          silence :=
            if (s.diskLink d).state = .up ∧ (s.diskLink d).silence + 1 < s.settings.silenceLimit then
              (s.diskLink d).silence + 1
            else (s.diskLink d).silence
          owed := decide ((s.diskLink d).state = .up ∧ s.settings.silenceLimit ≤ (s.diskLink d).silence + 1)
          out := if (s.diskLink d).produced then (s.diskLink d).out else (s.diskLink d).out ++ [.idle]
          produced := false }) ∧
      t.link.clock = { running := s.settings.portReload, expiries := s.link.clock.expiries + 1 } ∧
      t.link.limitRead = s.settings.silenceLimit ∧
      t = { s with link := t.link }) ∧
  ∀ s : State, ∃ u, runAll portSteps s = .next u ∧ (∀ n, (u.node n).owed = false) ∧
    (∀ d, (u.diskLink d).owed = false) ∧ exec .portClockExpiry s = exec .portClockExpiry u

/-- R54, R56, R53, R185, R83: a link-loss indication on an UP node link, a node link's step that reaches the silence
limit, and a RESTART PORT of a node port are departures, which withdraw all pieces of the node's requests (R124, R125,
R4, R86); an indication on a DOWN link changes nothing. The owed mark and the setting as the expiry read it are the
model's (log entry 2; log entry 31 for a limit of 1), as is the count of passes owed (log entry 12), and so is that a
stage freed by a withdrawal keeps its command tag (log entry 25). -/
def Obligations.DeparturesEndTheNodesWork : Prop :=
  ∀ (n : NodePort) (s : State),
    ((s.node n).state = .down → exec (.linkLossIndication (.node n)) s = .next s) ∧
    ((s.node n).state = .up → ∃ t, exec (.linkLossIndication (.node n)) s = .next t ∧ Departed n s t) ∧
    ((s.node n).state = .up → (s.node n).owed = true → s.link.limitRead ≤ (s.node n).silence + 1 →
      ∃ t, exec (.silenceLimit (.node n)) s = .next t ∧ Departed n s t) ∧
    ∀ (h : ManageHeader) (p : Byte), s.managedBy h → p.toNat = n.val →
      ∃ t, exec (.restartPortNode h p) s = .next t ∧ Departed n s t

/-- R54, R53, R149, R123, R185: the same events of a disk link are disk losses, and every request with a piece on a
stage of the disk, and no other, ends with DONE DISK_LOST, its pieces on other disks withdrawn (R81, R122, R124, R125,
R111); DROP goes out at a RESTART PORT of an UP link alone, as its list's only frame. The owed mark and the setting as
the expiry read it are the model's (log entry 2; log entry 31 for a limit of 1); a RESTART PORT of a DOWN link is log
entry 23. The count of passes owed is log entry 12, and that a freed stage keeps its command tag log entry 25. -/
def Obligations.DiskLossesFailTheDisksStages : Prop :=
  ∀ (d : DiskPort) (s : State),
    ((s.diskLink d).state = .down → exec (.linkLossIndication (.disk d)) s = .next s) ∧
    ((s.diskLink d).state = .up → ∃ t, exec (.linkLossIndication (.disk d)) s = .next t ∧ DiskLost d s t ∧
      (t.diskLink d).state = .down ∧ (t.diskLink d).silence = 0 ∧ (t.diskLink d).out = []) ∧
    ((s.diskLink d).state = .up → (s.diskLink d).owed = true → s.link.limitRead ≤ (s.diskLink d).silence + 1 →
      ∃ t, exec (.silenceLimit (.disk d)) s = .next t ∧ DiskLost d s t ∧
        (t.diskLink d).state = .down ∧ (t.diskLink d).silence = 0 ∧ (t.diskLink d).out = []) ∧
    ∀ (h : ManageHeader) (p : Byte), s.managedBy h → p.toNat = d.val →
      ∃ t, exec (.restartPortDisk h p) s = .next t ∧ DiskLost d s t ∧ (t.diskLink d).state = .down ∧
        ((s.diskLink d).state = .up → (t.diskLink d).silence = 0 ∧ (t.diskLink d).out = [.drop])

/-! ## Loans -/

/-- R29, R30: a GRANT LOAN that no check refuses takes the pair's own LAPSED or RECALLED entry, else the lowest FREE
one; the entry becomes ACTIVE with age 0, the reply carries OK and its index, and nothing else changes. The checks
refuse in the order BAD_VALUE, DUPLICATE, CONFLICT, TABLE_FULL and change nothing. -/
def Obligations.GrantsPutThePairInForce : Prop :=
  (∀ (h : ManageHeader) (v : Volume) (node mode : Byte) (term : BitVec 16) (s : State) (n : NodePort) (m : LoanMode)
     (i : LoanIdx),
     s.managedBy h → node.toNat = n.val → LoanMode.ofCode mode.toNat = some m →
     (∀ j, (s.loanAt j).inForce = true → ¬((s.loanAt j).volume = v ∧ (s.loanAt j).node = n)) →
     (m = .write → ∀ j, (s.loanAt j).inForce = true → (s.loanAt j).volume = v → (s.loanAt j).mode = .read) →
     (m = .sharedUpdate → ∀ j, (s.loanAt j).inForce = true → (s.loanAt j).volume = v → (s.loanAt j).mode ≠ .write) →
     (s.pairEntry v n = some i ∨ s.pairEntry v n = none ∧ (s.loanAt i).state = .free ∧
       ∀ j, j < i → (s.loanAt j).state ≠ .free) →
     exec (.grantLoan h v node mode term) s =
       .next (replied h.port (.manageReply h.tag 3 .ok 0 (BitVec.ofNat 16 i.val) [])
         ((heard h s).setLoan i
           { state := .active, volume := v, node := n, mode := m, term := term.toNat, age := 0, owed := false }))) ∧
  ∀ (h : ManageHeader) (v : Volume) (node mode : Byte) (term : BitVec 16) (s : State), s.managedBy h →
    let refused (status : ReplyStatus) : Result :=
      .next (replied h.port (.manageReply h.tag 3 status 0 0 []) (heard h s))
    (31 < node.toNat ∨ LoanMode.ofCode mode.toNat = none → exec (.grantLoan h v node mode term) s = refused .badValue) ∧
    ∀ (n : NodePort) (m : LoanMode), node.toNat = n.val → LoanMode.ofCode mode.toNat = some m →
      let paired : Prop := ∃ j, (s.loanAt j).inForce = true ∧ (s.loanAt j).volume = v ∧ (s.loanAt j).node = n
      let conflicting : Prop := ∃ j, (s.loanAt j).inForce = true ∧ (s.loanAt j).volume = v ∧
        (m = .write ∧ (s.loanAt j).mode ≠ .read ∨ m = .sharedUpdate ∧ (s.loanAt j).mode = .write)
      (paired → exec (.grantLoan h v node mode term) s = refused .duplicate) ∧
      (¬paired → conflicting → exec (.grantLoan h v node mode term) s = refused .conflict) ∧
      (¬paired → ¬conflicting → s.pairEntry v n = none → (∀ j, (s.loanAt j).state ≠ .free) →
        exec (.grantLoan h v node mode term) s = refused .tableFull)

/-- R39: RENEW by the state of the pair's entry. -/
def Obligations.RenewActsOnThePairsEntry : Prop :=
  ∀ (n : NodePort) (v : Volume) (s : State), (s.node n).state = .up →
    (s.pairEntry v n = none →
      exec (.renew n v) s = .next (replied n (.loanNotice v .none none) (heardOn n s))) ∧
    ∀ i, s.pairEntry v n = some i →
      ((s.loanAt i).inForce = true → exec (.renew n v) s = .next
        (replied n
          (.loanNotice v .active
            (some { index := i, mode := (s.loanAt i).mode, term := (s.loanAt i).term, age := 0 }))
          ((heardOn n s).setLoan i { s.loanAt i with age := 0, state := .active }))) ∧
      ((s.loanAt i).state = .lapsed → exec (.renew n v) s = .next
        (replied n (.loanNotice v .lapsed (some (s.loanDetail i))) (heardOn n s))) ∧
      ((s.loanAt i).state = .recalled → exec (.renew n v) s = .next
        (replied n (.loanNotice v .recalled (some (s.loanDetail i))) (heardOn n s)))

/-- R41, R37, R38: REVOKE LOAN by the state of the entry. For a loan in force LOAN NOTICE REVOKED goes to its node
first, then the DONE LOAN_REVOKED of the node's requests on the volume in ascending slot order; their pieces are
withdrawn, and its locks and claims there end, and its wait list keeps the order of the others (R73, R83, R85, R86,
R124, R125). That a stage freed by a withdrawal keeps its command tag is the model's (log entry 25), and so is the owed
mark that the entry loses (log entry 2). The counts of attempts and passes owed are log entries 12 and 29. -/
def Obligations.RevokeFreesTheEntry : Prop :=
  ∀ (h : ManageHeader) (index : BitVec 16) (s : State), s.managedBy h →
    (511 < index.toNat → exec (.revokeLoan h index) s =
      .next (replied h.port (.manageReply h.tag 4 .badIndex 0 0 []) (heard h s))) ∧
    ∀ i : LoanIdx, index.toNat = i.val →
      ((s.loanAt i).state = .free → exec (.revokeLoan h index) s =
        .next (replied h.port (.manageReply h.tag 4 .notFound 0 0 []) (heard h s))) ∧
      ((s.loanAt i).state = .lapsed ∨ (s.loanAt i).state = .recalled → exec (.revokeLoan h index) s =
        .next (replied h.port (.manageReply h.tag 4 .ok 0 0 [])
          ((heard h s).setLoan i { s.loanAt i with state := .free, owed := false }))) ∧
      ((s.loanAt i).inForce = true → ∃ t, exec (.revokeLoan h index) s = .next t ∧
        t.loanAt i = { s.loanAt i with state := .free, owed := false } ∧
        (∀ j, j ≠ i → t.loanAt j = s.loanAt j) ∧
        ((s.node (s.loanAt i).node).state = .up → ∃ frames, (t.node (s.loanAt i).node).out =
          (s.node (s.loanAt i).node).out ++
            .loanNotice (s.loanAt i).volume .revoked (some (s.loanDetail i)) :: frames) ∧
        LoanEnded (s.loanAt i).node (s.loanAt i).volume .loanRevoked s t)

/-- R34, R100, R160, R166: at a lending clock expiry with no step of an earlier one owed, the ages of loans with a term
and of HELD locks, the lockout timer and the tally period count advance where nothing follows; the steps that make a
loan DUE, lapse it, break a lock, end a claim or end the tally period are left to their own commands. Pending claims
and retry counts stay, and with no active claim no timer runs. With steps owed, the expiry takes them first: loans,
locks, timer, tally period. The steps of their own, and their place before the next expiry, are the model's (log entry
2), and so is that the counts come before the steps of the same expiry (R38, R168; log entry 32). -/
def Obligations.LendingExpiryCounts : Prop :=
  (∀ s : State, (∀ i, (s.loanAt i).owed = false) → (∀ k, (s.lockAt k).owed = false) → s.lock.timerOwed = false →
    s.meter.periodOwed = false → ∃ t, exec .lendingClockExpiry s = .next t ∧
      (∀ i, t.loanAt i =
        if (s.loanAt i).inForce = true ∧ 0 < (s.loanAt i).term then
          if (s.loanAt i).term ≤ (s.loanAt i).age + 1 ∨
              (s.loanAt i).state = .active ∧ 1 ≤ (s.loanAt i).term / 2 ∧ (s.loanAt i).age + 1 = (s.loanAt i).term / 2
          then { s.loanAt i with owed := true }
          else { s.loanAt i with age := (s.loanAt i).age + 1 }
        else s.loanAt i) ∧
      (∀ k, t.lockAt k =
        if (s.lockAt k).state = .held then
          if s.settings.holdLimit ≤ (s.lockAt k).age + 1 then { s.lockAt k with owed := true }
          else { s.lockAt k with age := (s.lockAt k).age + 1 }
        else s.lockAt k) ∧
      (∀ a, s.lock.active = some a → 1 < a.timer →
        t.lock.active = some { a with timer := a.timer - 1 } ∧ t.lock.timerOwed = false) ∧
      (∀ a, s.lock.active = some a → a.timer ≤ 1 → t.lock.active = some a ∧ t.lock.timerOwed = true) ∧
      (s.lock.active = none → t.lock.active = none ∧ t.lock.timerOwed = false) ∧
      t.lock.pendingClaims = s.lock.pendingClaims ∧ t.lock.retry = s.lock.retry ∧
      (if s.settings.tallyPeriod ≤ s.meter.periodCount + 1 then
        t.meter = { s.meter with periodOwed := true, periodRead := s.settings.tallyPeriod }
      else
        t.meter = { s.meter with periodCount := s.meter.periodCount + 1, periodRead := s.settings.tallyPeriod }) ∧
      t.lock.limitRead = s.settings.holdLimit ∧
      t.loan.clock = { running := s.settings.lendingReload, expiries := s.loan.clock.expiries + 1 } ∧
      t = { s with loan := t.loan, lock := t.lock, meter := t.meter }) ∧
  ∀ s : State, ∃ u, runAll lendingSteps s = .next u ∧ (∀ i, (u.loanAt i).owed = false) ∧
    (∀ k, (u.lockAt k).owed = false) ∧ u.lock.timerOwed = false ∧ u.meter.periodOwed = false ∧
    exec .lendingClockExpiry s = exec .lendingClockExpiry u

/-- R35, R36, R32, R37, R38: the step that brings an ACTIVE loan to half its term makes it DUE; the step that brings a
loan in force to its term lapses it, raises LOAN_LAPSE with its index, withdraws the node's requests on the volume with
DONE LOAN_LAPSED in ascending slot order, and ends its locks and claims there. Each is told to its node, if its port is
UP, before any other frame of the step (R85, R86, R124, R125 for the requests' pieces, R73 for the wait list). The owed
mark is the model's (log entry 2), and so is that a stage freed by a withdrawal keeps its command tag (log entry 25).
The counts of attempts and passes owed are log entries 12 and 29. -/
def Obligations.AgeingMakesLoansDueAndLapsesThem : Prop :=
  ∀ (i : LoanIdx) (s : State), (s.loanAt i).owed = true →
    ((s.loanAt i).state = .active → 1 ≤ (s.loanAt i).term / 2 → (s.loanAt i).age + 1 = (s.loanAt i).term / 2 →
      ∃ t, exec (.loanDue i) s = .next t ∧
        t.loanAt i = { s.loanAt i with state := .due, age := (s.loanAt i).age + 1, owed := false } ∧
        (∀ j, j ≠ i → t.loanAt j = s.loanAt j) ∧
        (∀ n, (t.node n).out =
          if n = (s.loanAt i).node ∧ (s.node n).state = .up then
            (s.node n).out ++ [.loanNotice (s.loanAt i).volume .due
              (some { index := i, mode := (s.loanAt i).mode, term := (s.loanAt i).term, age := (s.loanAt i).age + 1 })]
          else (s.node n).out) ∧
        t = { s with link := { s.link with nodes := t.link.nodes }, loan := t.loan }) ∧
    ((s.loanAt i).inForce = true → 0 < (s.loanAt i).term → (s.loanAt i).term ≤ (s.loanAt i).age + 1 →
      ∃ t, exec (.lapse i) s = .next t ∧
        t.loanAt i = { s.loanAt i with state := .lapsed, age := (s.loanAt i).age + 1, owed := false } ∧
        (∀ j, j ≠ i → t.loanAt j = s.loanAt j) ∧ t.flagSet .loanLapse = true ∧
        t.management.loanLapseDetail = i.val ∧
        ((s.node (s.loanAt i).node).state = .up → ∃ frames, (t.node (s.loanAt i).node).out =
          (s.node (s.loanAt i).node).out ++ .loanNotice (s.loanAt i).volume .lapsed
            (some { index := i, mode := (s.loanAt i).mode, term := (s.loanAt i).term, age := (s.loanAt i).age + 1 }) ::
            frames) ∧
        LoanEnded (s.loanAt i).node (s.loanAt i).volume .loanLapsed s t)

/-! ## Admission and translation -/

/-- R70, R71, R72, R64: a REQUEST that passes every check takes the lowest FREE slot of its node with its fields, its
class and its write blocks, at the tail of the wait list; an attempt is owed where the list was empty. One of bad form
or with a tag in use is answered DONE MALFORMED, one with no FREE slot or too few free pool blocks DONE BUSY, and
nothing of it is kept. The count of attempts owed is the model's (log entry 12). -/
def Obligations.RequestsAreAcceptedIntoTheLowestSlot : Prop :=
  (∀ (n : NodePort) (f : RequestFrame) (kind : ReqKind) (k : SlotIdx) (s : State), (s.node n).state = .up →
     GoodForm f kind → (∀ l, (s.slot n l).state ≠ .free → (s.slot n l).tag ≠ f.tag) →
     (s.slot n k).state = .free → (∀ l, l < k → (s.slot n l).state ≠ .free) →
     (kind.isWrite = true → f.length.toNat ≤ s.poolFree) →
     ∃ t, exec (.request n f) s = .next t ∧
       t.slot n k =
         { state := .waiting, tag := f.tag, kind := kind, volume := f.volume, offset := f.offset.toNat,
           length := f.length.toNat,
           cls := min (s.management.classMap[f.hint.toNat % 8]'(Nat.mod_lt _ (by decide))) (s.node n).ceiling,
           waitFor := .none, outstanding := 0, delivered := 0,
           held := if kind.isWrite then f.length.toNat else 0, data := f.blocks } ∧
       (∀ l, l ≠ k → t.slot n l = s.slot n l) ∧ (t.desk n).waitList = (s.desk n).waitList ++ [k] ∧
       (t.desk n).attemptsDue = (s.desk n).attemptsDue + (if (s.desk n).waitList = [] then 1 else 0) ∧
       (∀ m, m ≠ n → t.desk m = s.desk m) ∧
       t = { heardOn n s with admission := t.admission }) ∧
  ∀ (n : NodePort) (f : RequestFrame) (s : State), (s.node n).state = .up →
    let refused (status : Status) : Result := .next (replied n (.done f.tag status 0) (heardOn n s))
    ((∀ kind, ¬GoodForm f kind) → exec (.request n f) s = refused .malformed) ∧
    ∀ kind, GoodForm f kind →
      ((∃ l, (s.slot n l).state ≠ .free ∧ (s.slot n l).tag = f.tag) → exec (.request n f) s = refused .malformed) ∧
      ((∀ l, (s.slot n l).state ≠ .free → (s.slot n l).tag ≠ f.tag) →
        (∀ l, (s.slot n l).state ≠ .free) ∨ kind.isWrite = true ∧ s.poolFree < f.length.toNat →
        exec (.request n f) s = refused .busy)

/-- R13, R14, R18, R20, R21: a scan over entries that read CLEAN or CORRECTED and do not cover the granule goes on to
the first that does, ends at the first unrecoverable one with MAP_FAULT and its index, and with RANGE where its range
ends; each entry it reads CORRECTED is scrubbed, MAP_CORRECTED raised with the last such index. R15, R16: a matched
piece on an ABSENT disk fails with DISK_LOST, one not below the disk's capacity with RANGE, and the first piece that
fails ends the translation of a request. The conditions of an entry are the model's form of its check code (log entry
4). -/
def Obligations.ScansEndAtTheFirstMatch : Prop :=
  (∀ (kind : ReqKind) (v : Volume) (g f m k : Nat) (s : State),
     (∀ j : MapIdx, f ≤ j.val → j.val < f + m →
       (s.mapEntry j).condition ≠ .lost ∧ (s.mapEntry j).readFields.covers v g = false) →
     let r := scanMap kind v g k f s
     (m = k ∨ 4096 ≤ f + m → m ≤ k → f ≤ 4096 →
       r.2 = .error .range ∧
       (∀ j : MapIdx, r.1.mapEntry j =
         if f ≤ j.val ∧ j.val < f + m then (s.mapEntry j).scrubbed else s.mapEntry j) ∧
       CorrectedNotified f m s r.1 ∧ (∀ h, h ≠ .mapCorrected → r.1.flagSet h = s.flagSet h) ∧
       r.1 = { s with link := { s.link with nodes := r.1.link.nodes },
                      lending := { s.lending with map := r.1.lending.map }, management := r.1.management }) ∧
     ∀ i : MapIdx, i.val = f + m → m < k → (s.mapEntry i).condition = .lost →
       r.2 = .error .mapFault ∧
       (∀ j : MapIdx, r.1.mapEntry j =
         if f ≤ j.val ∧ j.val < f + m then (s.mapEntry j).scrubbed
         else if j = i then { s.mapEntry i with outcome := .uncorrectable } else s.mapEntry j) ∧
       CorrectedNotified f m s r.1 ∧ r.1.flagSet .mapFault = true ∧ r.1.management.mapFaultDetail = i.val ∧
       (kind.isWrite = true → r.1.flagSet .mapLoss = true ∧ r.1.management.mapLossDetail = i.val) ∧
       (kind.isWrite = false → r.1.flagSet .mapLoss = s.flagSet .mapLoss ∧
         r.1.management.mapLossDetail = s.management.mapLossDetail) ∧
       (∀ h, h ≠ .mapCorrected → h ≠ .mapFault → h ≠ .mapLoss → r.1.flagSet h = s.flagSet h) ∧
       r.1 = { s with link := { s.link with nodes := r.1.link.nodes },
                      lending := { s.lending with map := r.1.lending.map }, management := r.1.management }) ∧
  (∀ (kind : ReqKind) (v : Volume) (g f m k : Nat) (s : State) (i : MapIdx), i.val = f + m → m < k →
    (∀ j : MapIdx, f ≤ j.val → j.val < f + m →
      (s.mapEntry j).condition ≠ .lost ∧ (s.mapEntry j).readFields.covers v g = false) →
    (s.mapEntry i).condition ≠ .lost → (s.mapEntry i).readFields.covers v g = true →
    let r := scanMap kind v g k f s
    r.2 = .ok (s.mapEntry i).readFields ∧
    (∀ j : MapIdx, r.1.mapEntry j =
      if f ≤ j.val ∧ j.val ≤ f + m then (s.mapEntry j).scrubbed else s.mapEntry j) ∧
    (∀ j : MapIdx, f ≤ j.val → j.val ≤ f + m → (s.mapEntry j).condition ≠ .intact →
      r.1.flagSet .mapCorrected = true ∧
      ((∀ l : MapIdx, j.val < l.val → l.val ≤ f + m → (s.mapEntry l).condition = .intact) →
        r.1.management.mapCorrectedDetail = j.val)) ∧
    ((∀ j : MapIdx, f ≤ j.val → j.val ≤ f + m → (s.mapEntry j).condition = .intact) →
      r.1.management = s.management)) ∧
  (∀ (kind : ReqKind) (v : Volume) (c : Cut) (s s' : State),
    (∀ status, scanMap kind v c.granule (s.volume v).extents (s.volume v).first.val s = (s', .error status) →
      translateCut kind v c s = (s', .error status)) ∧
    ∀ e, scanMap kind v c.granule (s.volume v).extents (s.volume v).first.val s = (s', .ok e) →
      translateCut kind v c s =
        (s',
          if (s.disk (e.diskOf c.granule)).state = .absent then .error .diskLost
          else if (s.disk (e.diskOf c.granule)).capacity ≤ e.diskGranuleOf c.granule then .error .range
          else
            .ok { granule := c.granule, first := c.first, count := c.count, disk := e.diskOf c.granule,
                  diskGranule := e.diskGranuleOf c.granule })) ∧
  ∀ (kind : ReqKind) (v : Volume) (before after : List Cut) (c : Cut) (s s1 s2 : State) (ps : List Piece)
    (status : Status),
    translateAll kind v before s = (s1, .ok ps) → translateCut kind v c s1 = (s2, .error status) →
    translateAll kind v (before ++ c :: after) s = (s2, .error status)

/-- R15: an entry that R7 accepts places every granule it covers on one of its used disks, at a disk granule of its
span below 2^29; with relative granule r the column is (r div u) mod w and the disk granule d + (r div (u w)) u + r
mod u. -/
def Obligations.StripesStayInTheExtent : Prop :=
  ∀ (e : Extent) (v : Volume) (g : Nat), e.acceptable = true → e.covers v g = true →
    let r := g - e.base
    e.column g = r / e.unit % e.width ∧ e.column g < e.width ∧
    ((e.disks.toList[e.column g]?).map (·.toNat)) = some (e.diskOf g).val ∧
    e.diskGranuleOf g = e.diskBase + r / (e.unit * e.width) * e.unit + r % e.unit ∧
    e.diskGranuleOf g < e.diskBase + e.diskSpan ∧ e.diskGranuleOf g < 2 ^ 29

/-- R74, R78: an attempt whose loan check (R28, by the modes of R27), volume check (R3), translation (R16) or lock
check (R155, R158) fails ends the head with DONE and block count 0; its slot is FREE with tag, kind, volume, offset,
length and class kept, nothing is charged and no stage is touched. A LOCKREAD refused RETRY, by its lock check or on a
FROZEN volume, raises its node's retry count and may make a claim (R163, R164). The loan check is NO_LOAN for a pair
with no entry, a LAPSED or a RECALLED one, NOT_PERMITTED where the mode of a loan in force does not permit the kind.
The count of attempts owed is the model's (log entry 12), and so is that the NOTICE frames of an attempt stand before
its DONE (log entry 11). -/
def Obligations.FailedChecksRefuseTheHead : Prop :=
  (∀ (n : NodePort) (k : SlotIdx) (s : State) (status : Status), (s.desk n).attemptsDue ≠ 0 → s.headOf n = some k →
     (s.node n).state = .up → (s.meterOf n).short (s.slot n k).length = false →
     (loanCheck (s.slot n k).volume n (s.slot n k).kind s = some status ∨
       loanCheck (s.slot n k).volume n (s.slot n k).kind s = none ∧
         ((s.volume (s.slot n k).volume).state = .offline ∧ status = .noVolume ∨
           (s.volume (s.slot n k).volume).state = .frozen ∧ status = .retry ∧ (s.slot n k).kind ≠ .lockread)) →
     ∃ t, exec (.admissionAttempt n) s = .next t ∧
       t.slot n k =
         { s.slot n k with state := .free, waitFor := .none, outstanding := 0, delivered := 0, held := 0, data := [] } ∧
       (∀ l, l ≠ k → t.slot n l = s.slot n l) ∧ (∀ m, m ≠ n → t.desk m = s.desk m) ∧
       (t.desk n).waitList = (s.desk n).waitList.filter (· != k) ∧
       (t.node n).out = (s.node n).out ++ [.done (s.slot n k).tag status 0] ∧ (∀ m, m ≠ n → t.node m = s.node m) ∧
       t = { s with link := { s.link with nodes := t.link.nodes }, admission := t.admission }) ∧
  (∀ (n : NodePort) (k : SlotIdx) (s : State), (s.desk n).attemptsDue ≠ 0 → s.headOf n = some k →
    (s.node n).state = .up → (s.meterOf n).short (s.slot n k).length = false →
    loanCheck (s.slot n k).volume n (s.slot n k).kind s = none →
    (s.volume (s.slot n k).volume).state = .frozen → (s.slot n k).kind = .lockread →
    ∃ t, exec (.admissionAttempt n) s = .next t ∧ ∃ b,
      RetryCounted { node := n, volume := (s.slot n k).volume, granule := (s.slot n k).offset / 8 } (attempted n s) b ∧
      HeadRefused n k .retry b t) ∧
  (∀ (n : NodePort) (k : SlotIdx) (s s' : State), (s.desk n).attemptsDue ≠ 0 → (s.node n).state = .up →
    HeadReaches (attempted n s) n k →
    (∀ status, (attempted n s).translated n k = (s', .error status) →
      ∃ t, exec (.admissionAttempt n) s = .next t ∧ HeadRefused n k status s' t) ∧
    ∀ ps status, (attempted n s).translated n k = (s', .ok ps) →
      lockCheck (s.slot n k).kind n (s.slot n k).volume ((s.slot n k).offset / 8) s' = some status →
      ((s.slot n k).kind = .lockread → status = .retry → ∃ t, exec (.admissionAttempt n) s = .next t ∧ ∃ b,
        RetryCounted { node := n, volume := (s.slot n k).volume, granule := (s.slot n k).offset / 8 } s' b ∧
        HeadRefused n k .retry b t) ∧
      ((s.slot n k).kind ≠ .lockread ∨ status ≠ .retry →
        ∃ t, exec (.admissionAttempt n) s = .next t ∧ HeadRefused n k status s' t)) ∧
  (∀ (n : NodePort) (v : Volume) (g : Nat) (s : State),
    let named (j : LockIdx) : Prop :=
      (s.lockAt j).state = .held ∧ (s.lockAt j).volume = v ∧ (s.lockAt j).granule = g
    (∀ j, named j → (∀ l, named l → l = j) →
      lockCheck .lockread n v g s = some (if (s.lockAt j).holder = n then .lockHeld else .retry) ∧
      lockCheck .unlockwrite n v g s = if (s.lockAt j).holder = n then none else some .lockLost) ∧
    ((∀ j, ¬named j) →
      lockCheck .unlockwrite n v g s = some .lockLost ∧
      ((∃ a, s.lock.active = some a ∧ a.claim.volume = v ∧ a.claim.granule = g ∧ a.claim.node ≠ n) ∨
        (∀ j, (s.lockAt j).state ≠ .free) → lockCheck .lockread n v g s = some .retry) ∧
      ((∀ a, s.lock.active = some a → ¬(a.claim.volume = v ∧ a.claim.granule = g ∧ a.claim.node ≠ n)) →
        (∃ j, (s.lockAt j).state = .free) → lockCheck .lockread n v g s = none)) ∧
    lockCheck .read n v g s = none ∧ lockCheck .write n v g s = none) ∧
  ∀ (n : NodePort) (v : Volume) (kind : ReqKind) (s : State),
    ((∀ i, (s.loanAt i).state ≠ .free → ¬((s.loanAt i).volume = v ∧ (s.loanAt i).node = n)) →
      loanCheck v n kind s = some .noLoan) ∧
    ∀ i, (s.loanAt i).state ≠ .free → (s.loanAt i).volume = v → (s.loanAt i).node = n →
      (∀ j, (s.loanAt j).state ≠ .free → (s.loanAt j).volume = v → (s.loanAt j).node = n → j = i) →
      ((s.loanAt i).state = .lapsed ∨ (s.loanAt i).state = .recalled → loanCheck v n kind s = some .noLoan) ∧
      ((s.loanAt i).state = .active ∨ (s.loanAt i).state = .due → loanCheck v n kind s =
        if kind = .read ∨ (s.loanAt i).mode = .write ∧ kind = .write ∨
            (s.loanAt i).mode = .sharedUpdate ∧ (kind = .lockread ∨ kind = .unlockwrite) then none
        else some .notPermitted)

/-- R77, R4, R12, R95, R156, R158: an attempt that passes every question admits the head: its length is charged to a
metered node, its pieces are created in ascending order of granule, each with its blocks, and counted in flight, a
LOCKREAD takes the lowest FREE lock entry, which ends its node's claim on the granule, an active one with the handoff
of R167, and an UNLOCKWRITE gives its lock back. R76: an attempt of a metered node short of credit, and one short of
FREE stages, sets the head's waiting for and changes nothing else, but for the map reads of a translation; a piece
needs a stage of its own where it is a write piece, has the disk granule of an earlier piece, or may not join its
chain's tail (R114; log entry 30 for a tail that a withdrawal has just uncovered). R11: the pieces of a request are its
parts within each volume granule. The count of attempts owed is the model's (log entry 12). -/
def Obligations.PassedAttemptsAdmitTheHead : Prop :=
  (∀ (n : NodePort) (k : SlotIdx) (s s' : State) (ps : List Piece), (s.desk n).attemptsDue ≠ 0 →
     HeadPasses (attempted n s) n k s' ps → ∃ t, exec (.admissionAttempt n) s = .next t ∧
       t.slot n k =
         { s.slot n k with
           state := .admitted, waitFor := .none, outstanding := ps.length, delivered := 0, data := [] } ∧
       (∀ l, l ≠ k → t.slot n l = s.slot n l) ∧ (∀ m, m ≠ n → t.desk m = s.desk m) ∧
       (t.desk n).waitList = (s.desk n).waitList.filter (· != k) ∧
       t.stages = (createPieces n k (s.slot n k).kind (s.slot n k).cls ps (s.slot n k).data s').stages ∧
       t.dispatch = (createPieces n k (s.slot n k).kind (s.slot n k).cls ps (s.slot n k).data s').dispatch ∧
       (∀ m, t.meterOf m =
         if m = n ∧ (s.meterOf n).metered = true then
           { s.meterOf n with credit := (s.meterOf n).credit - (s.slot n k).length }
         else s.meterOf m) ∧
       (∀ v, t.volume v =
         if v = (s.slot n k).volume then { s.volume v with inFlight := (s.volume v).inFlight + ps.length }
         else s.volume v) ∧
       ((s.slot n k).kind = .lockread → LockTaken n (s.slot n k).volume ((s.slot n k).offset / 8) s t) ∧
       ((s.slot n k).kind = .unlockwrite → ∃ j, (s.lockAt j).state = .held ∧ (s.lockAt j).holder = n ∧
         (s.lockAt j).volume = (s.slot n k).volume ∧ (s.lockAt j).granule = (s.slot n k).offset / 8 ∧
         t.lockAt j = { s.lockAt j with state := .free, owed := false } ∧
         (∀ l, l ≠ j → t.lockAt l = s.lockAt l) ∧ t.lock = { s.lock with locks := t.lock.locks }) ∧
       ((s.slot n k).kind = .read ∨ (s.slot n k).kind = .write → t.lock = s.lock) ∧
       t.loan = s.loan ∧ t.meter.tallies = s.meter.tallies ∧ t.link.disks = s.link.disks ∧
       ∀ d, ∃ lanes, t.disk d = { s.disk d with lanes := lanes }) ∧
  (∀ (n : NodePort) (k : SlotIdx) (s : State), (s.desk n).attemptsDue ≠ 0 → s.headOf n = some k →
    (s.meterOf n).metered = true → (s.meterOf n).credit < (s.slot n k).length →
    exec (.admissionAttempt n) s =
      .next ((attempted n s).setSlot n k { s.slot n k with waitFor := .credit })) ∧
  (∀ (n : NodePort) (k : SlotIdx) (s s' : State) (ps : List Piece), (s.desk n).attemptsDue ≠ 0 →
    HeadReaches (attempted n s) n k → (attempted n s).translated n k = (s', .ok ps) →
    lockCheck (s.slot n k).kind n (s.slot n k).volume ((s.slot n k).offset / 8) s' = none →
    s'.freeStages < stagesNeeded s' n k (s.slot n k).kind ps [] →
    exec (.admissionAttempt n) s = .next (s'.setSlot n k { s.slot n k with waitFor := .stages })) ∧
  (∀ (n : NodePort) (k : SlotIdx) (kind : ReqKind) (c : Sys2Proof.Class) (p : Piece) (ps : List Piece)
    (data : List Block) (s : State),
    createPieces n k kind c [] data s = s ∧
    createPieces n k kind c [p] data s = createPiece n k kind c p (data.take p.count) s ∧
    createPieces n k kind c (p :: ps) data s =
      createPieces n k kind c ps (data.drop p.count) (createPiece n k kind c p (data.take p.count) s)) ∧
  (∀ (o L : Nat), 1 ≤ L →
    let last := (o + L - 1) / 8
    (cutRequest o L).length = last - o / 8 + 1 ∧ (L ≤ 64 → (cutRequest o L).length ≤ 9) ∧
    ((cutRequest o L).map (·.count)).sum = L ∧
    ∀ j, o / 8 + j ≤ last → ∃ c, (cutRequest o L)[j]? = some c ∧ c.granule = o / 8 + j ∧
      c.first = (if j = 0 then o % 8 else 0) ∧
      c.first + c.count = (if o / 8 + j = last then (o + L - 1) % 8 else 7) + 1) ∧
  ∀ (n : NodePort) (k : SlotIdx) (kind : ReqKind) (ps : List Piece) (p : Piece) (s : State),
    stagesNeeded s n k kind [] [] = 0 ∧
    (NeedsStage s n k kind ps p → stagesNeeded s n k kind (ps ++ [p]) [] = stagesNeeded s n k kind ps [] + 1) ∧
    (¬NeedsStage s n k kind ps p → stagesNeeded s n k kind (ps ++ [p]) [] = stagesNeeded s n k kind ps [])

/-- R111: an arbiter pass that is owed serves the nodes whose heads wait for STAGES when it begins, in ascending order
from the one after last-served, until it has served them all or no stage is FREE; to serve a node it sets last-served
to it and makes one admission attempt, the same attempt that ADMISSION_ATTEMPT makes. The count of passes owed, and
that an attempt runs inside its pass, are the model's (log entries 12 and 27). -/
def Obligations.ArbiterServesNodesInTurn : Prop :=
  (∀ (s : State), s.stages.passesDue = 0 → exec .arbiterPass s = .next s) ∧
  (∀ (s : State), s.stages.passesDue ≠ 0 →
    let serve (nodes : List NodePort) : State :=
      nodes.foldl (fun u n => attempt n { u with stages := { u.stages with lastServed := n } })
        { s with stages := { s.stages with passesDue := s.stages.passesDue - 1 } }
    ∃ t, exec .arbiterPass s = .next t ∧ ∃ served, t = serve served ∧
      (∃ rest, s.passNodes = served ++ rest ∧ (rest = [] ∨ t.freeStages = 0)) ∧
      ∀ before n after, served = before ++ n :: after → (serve before).freeStages ≠ 0) ∧
  (∀ (s : State),
    (∀ n, n ∈ s.passNodes ↔ s.headWaits n .stages = true) ∧
    s.passNodes.Pairwise fun n m => (n - (s.stages.lastServed + 1)).val < (m - (s.stages.lastServed + 1)).val) ∧
  ∀ (n : NodePort) (s : State), (s.desk n).attemptsDue ≠ 0 →
    exec (.admissionAttempt n) s = .next (attempt n (attempted n s))

/-! ## Meters and tallies -/

/-- R91, R92, R94: a meter clock expiry refills each metered meter by its rate and spread extra up to its burst,
leaves unmetered ones, and starts an attempt for a head waiting for CREDIT that the credit now covers. The count of
attempts owed is the model's (log entry 12). -/
def Obligations.MeterExpiryRefills : Prop :=
  ∀ s : State, ∃ t, exec .meterClockExpiry s = .next t ∧
    (∀ n, t.meterOf n =
      if (s.meterOf n).whole = 0 ∧ (s.meterOf n).fraction = 0 then s.meterOf n
      else
        { s.meterOf n with
          credit :=
            min ((s.meterOf n).credit + (s.meterOf n).whole +
              (if (s.meterOf n).spread * (s.meterOf n).fraction / 16 <
                  ((s.meterOf n).spread + 1) * (s.meterOf n).fraction / 16 then 1 else 0)) (s.meterOf n).burst
          spread := ((s.meterOf n).spread + 1) % 16 }) ∧
    (∀ n, t.desk n =
      { s.desk n with
        attemptsDue := (s.desk n).attemptsDue +
          (if (s.meterOf n).metered = true ∧ s.headWaits n .credit = true ∧
              s.headLength n ≤ (t.meterOf n).credit then 1 else 0) }) ∧
    t.meter = { s.meter with
      meters := t.meter.meters,
      clock := { running := s.settings.meterReload, expiries := s.meter.clock.expiries + 1 } } ∧
    t = { s with meter := t.meter, admission := t.admission }

/-- R92: "any 16 consecutive refills of a metered meter, whatever position they start from, add exactly 16 × I + F
blocks before the cap", and return to the position they started from. -/
def Obligations.SixteenRefillsAddTheRate : Prop :=
  ∀ m : Meter, m.spread < 16 → m.fraction < 16 → m.credit + 16 * m.whole + m.fraction ≤ m.burst →
    Nat.iterate Meter.refill 16 m = { m with credit := m.credit + 16 * m.whole + m.fraction }

/-- R97, R98: WRITE ENTRY of METER sets rate and burst, lowers the credit to the burst where it is above, keeps the
spread position and starts an attempt where the node becomes unmetered with its head waiting for CREDIT. The count of
attempts owed is the model's (log entry 12). -/
def Obligations.MeterWritesClampTheCredit : Prop :=
  ∀ (h : ManageHeader) (index : BitVec 16) (b : List Byte) (n : NodePort) (s : State), s.managedBy h →
    index.toNat = n.val → b.length = 8 →
    (15 < field b 1 1 ∨ field b 2 2 < 64 ∨ 4095 < field b 2 2 → exec (.writeEntryMeter h index b) s =
      .next (replied h.port (.manageReply h.tag 2 .badValue 7 index []) (heard h s))) ∧
    (field b 1 1 ≤ 15 → 64 ≤ field b 2 2 → field b 2 2 ≤ 4095 →
      ∃ t, exec (.writeEntryMeter h index b) s = .next t ∧
      t.meterOf n =
        { whole := field b 0 1, fraction := field b 1 1, burst := field b 2 2,
          credit := min (s.meterOf n).credit (field b 2 2), spread := (s.meterOf n).spread } ∧
      (∀ m, m ≠ n → t.meterOf m = s.meterOf m) ∧ t.meter.tallies = s.meter.tallies ∧
      (∀ m, t.desk m =
        if m = n ∧ field b 0 1 = 0 ∧ field b 1 1 = 0 ∧ s.headWaits n .credit = true then
          { s.desk n with attemptsDue := (s.desk n).attemptsDue + 1 }
        else s.desk m) ∧
      t.link = (replied h.port (.manageReply h.tag 2 .ok 7 index []) (heard h s)).link)

/-- R101: the step that ends a tally period snapshots every tally and raises TALLY_READY. The owed mark and the
setting as the expiry read it are the model's (log entry 2). -/
def Obligations.PeriodEndSnapshotsTallies : Prop :=
  ∀ s : State, s.meter.periodOwed = true → s.meter.periodRead ≤ s.meter.periodCount + 1 →
    ∃ t, exec .tallyPeriodEnd s = .next t ∧
      (∀ n, t.tallyOf n =
        { s.tallyOf n with
          overrun := (s.tallyOf n).overrun || (s.tallyOf n).ready, snapRead := (s.tallyOf n).perRead,
          snapWritten := (s.tallyOf n).perWritten, perRead := 0, perWritten := 0, ready := true }) ∧
      t.meter.periodCount = 0 ∧ t.meter.periodOwed = false ∧ t.meter.meters = s.meter.meters ∧
      t.flagSet .tallyReady = true ∧ (∀ g, g ≠ .tallyReady → t.flagSet g = s.flagSet g) ∧
      t = { s with link := { s.link with nodes := t.link.nodes }, meter := t.meter, management := t.management }

/-- R102: a READ ENTRY of TALLY returns every field as it stands and then clears READY and OVERRUN of that tally
alone; an index above 31 clears nothing; a WRITE ENTRY is READ_ONLY. TALLY_READY stays as it was. -/
def Obligations.TallyReadsClearTheirMarks : Prop :=
  ∀ (h : ManageHeader) (index : BitVec 16) (s : State), s.managedBy h →
    (∀ n : NodePort, index.toNat = n.val → exec (.readEntryTally h index) s =
      .next (replied h.port
        (.manageReply h.tag 1 .ok 8 index
          (beBytes 6 (s.tallyOf n).cumRead ++ beBytes 6 (s.tallyOf n).cumWritten ++ beBytes 4 (s.tallyOf n).perRead ++
            beBytes 4 (s.tallyOf n).perWritten ++ beBytes 4 (s.tallyOf n).snapRead ++
            beBytes 4 (s.tallyOf n).snapWritten ++
            beBytes 1 ((if (s.tallyOf n).ready then 1 else 0) + (if (s.tallyOf n).overrun then 2 else 0)) ++
            beBytes 3 0))
        ((heard h s).setTally n { s.tallyOf n with ready := false, overrun := false }))) ∧
    (31 < index.toNat → exec (.readEntryTally h index) s =
      .next (replied h.port (.manageReply h.tag 1 .badIndex 8 index []) (heard h s))) ∧
    ∀ b, exec (.writeEntryReadOnly h .tally index b) s =
      .next (replied h.port (.manageReply h.tag 2 .readOnly 8 index []) (heard h s))

/-! ## Stages -/

/-- R108, R109, R110, R112, R135: a read piece that joins nothing takes the lowest FREE stage as a QUEUED FETCH with
the next generation, at the tails of its chain and of the lane of its class; a write piece always takes it as a QUEUED
STORE of its owner, with the piece's first index, count and blocks. That a FETCH keeps the stage's first index and
count and a STORE its lead index is the model's choice (log entry 28). -/
def Obligations.ReadPiecesCreateFetches : Prop :=
  (∀ (n : NodePort) (k : SlotIdx) (kind : ReqKind) (c : Sys2Proof.Class) (p : Piece) (data : List Block) (s : State)
     (i : StageIdx),
     kind.isWrite = false → s.joinTarget n k p.disk p.diskGranule = none → (s.stage i).state = .free →
     (∀ j, j < i → (s.stage j).state ≠ .free) →
       let t := createPiece n k kind c p data s
       t.stage i =
         { s.stage i with
           state := .queued, abandoned := false, kind := .fetch, disk := p.disk, granule := p.diskGranule,
           generation := ((s.stage i).generation + 1) % 16, tag := ((s.stage i).generation + 1) % 16 * 256 + i.val,
           cls := c, lead := p.first, arrived := 0, sendAge := 0, acceptAge := 0, owner := none, data := [],
           waiters :=
             [{ node := n, slot := k, granule := p.granule, first := p.first, count := p.count, delivered := 0 }],
           owed := false } ∧
       (∀ j, j ≠ i → t.stage j = s.stage j) ∧ t.stages.order = s.stages.order ++ [i] ∧
       (∀ e, t.disk e =
         if e = p.disk then
           { s.disk e with lanes := (s.disk e).lanes.set c.val ((s.disk e).lanes[c.val] ++ [i]) }
         else s.disk e)) ∧
  ∀ (n : NodePort) (k : SlotIdx) (kind : ReqKind) (c : Sys2Proof.Class) (p : Piece) (data : List Block) (s : State)
    (i : StageIdx),
    kind.isWrite = true → (s.stage i).state = .free → (∀ j, j < i → (s.stage j).state ≠ .free) →
      let t := createPiece n k kind c p data s
      t.stage i =
        { s.stage i with
          state := .queued, abandoned := false, kind := .store, disk := p.disk, granule := p.diskGranule,
          generation := ((s.stage i).generation + 1) % 16, tag := ((s.stage i).generation + 1) % 16 * 256 + i.val,
          cls := c, first := p.first, count := p.count, arrived := 0, sendAge := 0, acceptAge := 0,
          owner := some { node := n, slot := k }, waiters := [], data := data, owed := false } ∧
      (∀ j, j ≠ i → t.stage j = s.stage j) ∧ t.stages.order = s.stages.order ++ [i] ∧
      (∀ e, t.disk e =
        if e = p.disk then
          { s.disk e with lanes := (s.disk e).lanes.set c.val ((s.disk e).lanes[c.val] ++ [i]) }
        else s.disk e)

/-- R114, R115: a read piece joins a fetch at the tail of its chain as its last waiter; a waiter of higher class raises
the fetch's class, and a QUEUED fetch then leaves the lane it was in for the tail of the lane of that class. Other
disks, and the order of the other stages, stay. That the tail is judged as it stands, also where a withdrawal has just
uncovered it, is the model's choice (log entry 30). -/
def Obligations.ReadPiecesJoinTheTailFetch : Prop :=
  ∀ (n : NodePort) (k : SlotIdx) (kind : ReqKind) (c : Sys2Proof.Class) (p : Piece) (data : List Block) (s : State)
    (i : StageIdx),
    kind.isWrite = false → (s.chain p.disk p.diskGranule).getLast? = some i → (s.stage i).kind = .fetch →
    ((s.stage i).state = .queued ∨ (s.stage i).state = .sent ∨ (s.stage i).state = .accepted) →
    (s.stage i).abandoned = false → (s.stage i).waiters.length < 8 →
    (∀ w ∈ (s.stage i).waiters, ¬(w.node = n ∧ w.slot = k)) →
      let t := createPiece n k kind c p data s
      t.stage i =
        { s.stage i with
          cls := max (s.stage i).cls c
          waiters := (s.stage i).waiters ++
            [{ node := n, slot := k, granule := p.granule, first := p.first, count := p.count, delivered := 0 }] } ∧
      (∀ j, j ≠ i → t.stage j = s.stage j) ∧ t.stages.order = s.stages.order ∧
      (c ≤ (s.stage i).cls ∨ (s.stage i).state ≠ .queued → t.dispatch = s.dispatch) ∧
      ((s.stage i).cls < c → (s.stage i).state = .queued →
        (t.disk p.disk).lanes[c.val] = (s.disk p.disk).lanes[c.val].filter (· != i) ++ [i] ∧
        (∀ e : Sys2Proof.Class, e ≠ c →
          (t.disk p.disk).lanes[e.val] = (s.disk p.disk).lanes[e.val].filter (· != i)) ∧
        (∃ lanes, t.disk p.disk = { s.disk p.disk with lanes := lanes }) ∧
        (∀ e, e ≠ p.disk → t.disk e = s.disk e) ∧ t.dispatch.clock = s.dispatch.clock)

/-! ## Disks -/

/-- R133: HELLO makes an ABSENT disk PRESENT with its capacity, at most 2^29, and raises DISK_UP; on a PRESENT disk it
changes the capacity alone. -/
def Obligations.HellosMakeDisksPresent : Prop :=
  ∀ (d : DiskPort) (capacity : BitVec 32) (s : State),
    ((s.disk d).state = .absent → ∃ t, exec (.hello d capacity) s = .next t ∧
      t.disk d = { s.disk d with state := .present, capacity := min capacity.toNat (2 ^ 29) } ∧
      (∀ e, e ≠ d → t.disk e = s.disk e) ∧ t.flagSet (.diskUp d) = true ∧
      (∀ g, g ≠ .diskUp d → t.flagSet g = s.flagSet g) ∧ t.diskLink d = (heardFrom d s).diskLink d ∧
      t = { s with link := t.link, dispatch := t.dispatch, management := t.management }) ∧
    ((s.disk d).state = .present → exec (.hello d capacity) s =
      .next ((heardFrom d s).setDisk d { s.disk d with capacity := min capacity.toNat (2 ^ 29) }))

/-- R139, R140: a matched ACCEPT moves a SENT stage, abandoned or not, to ACCEPTED with accept age 0, and is discarded
in another state; a matched NAK acts by the stage and the disk. R134: every reply but HELLO from an ABSENT disk, and
every reply whose tag matches no stage at its disk, is discarded. The count of passes owed is the model's (log entry
12). -/
def Obligations.AcceptsAndNaksMoveTheirStage : Prop :=
  (∀ (d : DiskPort) (tag : Tag) (i : StageIdx) (s : State), (s.disk d).state = .present →
     matchReply d tag s = some i →
     ((s.stage i).state = .sent → exec (.accept d tag) s =
       .next ((heardFrom d s).setStage i { s.stage i with state := .accepted, acceptAge := 0 })) ∧
     ((s.stage i).state ≠ .sent → exec (.accept d tag) s = .next (heardFrom d s)) ∧
     ((s.stage i).state = .sent → (s.stage i).abandoned = false → (s.disk d).held = false →
       exec (.nak d tag) s = .next ((heardFrom d s).setStage i { s.stage i with state := .retrying })) ∧
     ((s.stage i).state = .sent → (s.stage i).abandoned = false → (s.disk d).held = true →
       ∃ t, exec (.nak d tag) s = .next t ∧ t.stage i = { s.stage i with state := .queued, owed := false } ∧
         (∀ j, j ≠ i → t.stage j = s.stage j) ∧
         (t.disk d).lanes[(s.stage i).cls.val] = i :: (s.disk d).lanes[(s.stage i).cls.val] ∧
         t.outstanding d + 1 = s.outstanding d) ∧
     ((s.stage i).state ≠ .retrying → (s.stage i).abandoned = true →
       ∃ t, exec (.nak d tag) s = .next t ∧ (t.stage i).state = .free ∧
         (t.stage i).generation = (s.stage i).generation ∧
         (∀ j, j ≠ i → t.stage j = s.stage j) ∧ t.stages.order = s.stages.order.filter (· != i) ∧
         t.stages.passesDue = s.stages.passesDue + 1 ∧ t.admission = s.admission) ∧
     ((s.stage i).state = .retrying ∨ (s.stage i).state ≠ .sent ∧ (s.stage i).abandoned = false →
       exec (.nak d tag) s = .next (heardFrom d s))) ∧
  ∀ (d : DiskPort) (s : State),
    ((s.disk d).state = .absent → exec (.hold d) s = .next (heardFrom d s) ∧
      exec (.release d) s = .next (heardFrom d s)) ∧
    ∀ tag : Tag,
      (s.disk d).state = .absent ∨
        (∀ i : StageIdx, i.val = tag.toNat % 256 → tag.toNat ≤ 4095 → (s.stage i).generation = tag.toNat / 256 →
          (s.stage i).state ≠ .free → (s.stage i).state ≠ .queued → (s.stage i).disk ≠ d) →
      exec (.accept d tag) s = .next (heardFrom d s) ∧ exec (.nak d tag) s = .next (heardFrom d s) ∧
      exec (.diskDoneOk d tag) s = .next (heardFrom d s) ∧
      (∀ result, exec (.diskDoneError d result tag) s = .next (heardFrom d s)) ∧
      ∀ index block, exec (.diskData d index tag block) s = .next (heardFrom d s)

/-- R142, R143: HOLD sets held and returns the disk's RETRYING stages to QUEUED, at the fronts of the lanes of their
classes in ascending stage index; RELEASE clears held. -/
def Obligations.HoldsReturnRetryingStages : Prop :=
  ∀ (d : DiskPort) (s : State), (s.disk d).state = .present →
    (∃ t, exec (.hold d) s = .next t ∧
      (∀ i, t.stage i =
        if (s.stage i).state = .retrying ∧ (s.stage i).disk = d then { s.stage i with state := .queued, owed := false }
        else s.stage i) ∧
      (t.disk d).held = true ∧ (t.disk d).state = .present ∧ (t.disk d).capacity = (s.disk d).capacity ∧
      (t.disk d).depth = (s.disk d).depth ∧
      (∀ c : Sys2Proof.Class, (t.disk d).lanes[c.val] =
        ((List.finRange 256).filter fun i =>
          (s.stage i).state == .retrying && (s.stage i).disk == d && (s.stage i).cls == c) ++
          (s.disk d).lanes[c.val]) ∧
      (∀ e, e ≠ d → t.disk e = s.disk e) ∧ t.management = s.management) ∧
    exec (.release d) s = .next ((heardFrom d s).setDisk d { s.disk d with held := false })

/-- R117, R118: the next DATA of a FETCH in its wrapped order is taken into the buffer, and goes as a DATA frame to
each waiter whose range contains its index, in waiter order. -/
def Obligations.BlocksAreTakenInWrappedOrder : Prop :=
  ∀ (d : DiskPort) (index : Byte) (tag : Tag) (block : Block) (i : StageIdx) (s : State) (b : BlockIdx),
    (s.disk d).state = .present → matchReply d tag s = some i → (s.stage i).kind = .fetch →
    ((s.stage i).state = .accepted ∨ (s.stage i).state = .streaming ∧ (s.stage i).arrived < 8) →
    index.toNat = b.val → b.val = ((s.stage i).lead + (s.stage i).arrived) % 8 →
    ∃ t, exec (.diskData d index tag block) s = .next t ∧
      t.stage i =
        { s.stage i with
          state := .streaming, arrived := (s.stage i).arrived + 1,
          buffer := (s.stage i).buffer.set b.val (some block),
          waiters := (s.stage i).waiters.map fun w =>
            if w.first ≤ b.val ∧ b.val < w.first + w.count then { w with delivered := w.delivered + 1 } else w } ∧
      (∀ j, j ≠ i → t.stage j = s.stage j) ∧
      (∀ n, (s.node n).state = .up → (t.node n).out = (s.node n).out ++
        ((s.stage i).waiters.filter fun w =>
          w.node == n && decide (w.first ≤ b.val ∧ b.val < w.first + w.count)).map fun w =>
            .data (s.slot n w.slot).tag w.granule b block) ∧
      t = { s with link := t.link, stages := t.stages }

/-- R119, R122, R81: a DONE ERROR, a DONE OK before its time and a DATA out of its order fail a matched stage with
DISK_ERROR: the member of the disk is raised, each request with a piece on the stage ends with DONE DISK_ERROR and the
blocks delivered, and the stage is FREE. The DONE of a sole waiter's or the owner's request with no other piece is the
last frame of its node's list. Slots and wait lists of other requests stay, a failed request's pieces on other stages
are withdrawn, and one arbiter pass is owed (R111, R122, R124, R125, R4). The count of passes owed is the model's (log
entry 12), and so is that a freed stage keeps its command tag (log entry 25). -/
def Obligations.ProtocolErrorsFailTheStage : Prop :=
  ∀ (d : DiskPort) (tag : Tag) (i : StageIdx) (s : State) (c : Instr), (s.disk d).state = .present →
    matchReply d tag s = some i →
    ((∃ result, c = .diskDoneError d result tag) ∨
      c = .diskDoneOk d tag ∧ (s.stage i).completable = false ∨
      (∃ index block, c = .diskData d index tag block ∧
        ¬((s.stage i).kind = .fetch ∧ index.toNat = (s.stage i).expected ∧
          ((s.stage i).state = .accepted ∨ (s.stage i).state = .streaming ∧ (s.stage i).arrived < 8)))) →
    ∃ t, exec c s = .next t ∧ (t.stage i).state = .free ∧ (t.stage i).generation = (s.stage i).generation ∧
      t.flagSet (.diskError d) = true ∧ i ∉ t.stages.order ∧ t.meter = s.meter ∧ t.loan = s.loan ∧ t.lock = s.lock ∧
      (∀ e, ∃ lanes, t.disk e = { s.disk e with lanes := lanes }) ∧ t.lending.map = s.lending.map ∧
      (∀ n, MoreFrames (s.node n) (t.node n)) ∧ (∀ e, t.diskLink e = (heardFrom d s).diskLink e) ∧
      StagesFailed (· == i) s t ∧ (∀ e, LanesLeft e s t) ∧ t.stages.passesDue = s.stages.passesDue + 1 ∧
      (∀ n k, (s.stage i).serves n k = true →
        RequestFailed n k .diskError s t ∧ SoleRequestFailed i n k .diskError s t) ∧
      (∀ o, (s.stage i).kind = .store → (s.stage i).owner = some o →
        (∀ j, j ≠ i → (s.stage j).serves o.node o.slot = false) →
        (t.volume (s.slot o.node o.slot).volume).inFlight = (s.volume (s.slot o.node o.slot).volume).inFlight - 1 ∧
        ((s.node o.node).state = .up → ∃ frames, (t.node o.node).out = (s.node o.node).out ++ frames ++
          [.done (s.slot o.node o.slot).tag .diskError (s.slot o.node o.slot).delivered])) ∧
      ∀ w, (s.stage i).kind = .fetch → (s.stage i).waiters = [w] →
        (∀ j, j ≠ i → (s.stage j).serves w.node w.slot = false) → (s.node w.node).state = .up →
        (t.slot w.node w.slot).state = .free ∧
        (∃ frames, (t.node w.node).out = (s.node w.node).out ++ frames ++
          [.done (s.slot w.node w.slot).tag .diskError (s.slot w.node w.slot).delivered]) ∧
        (t.volume (s.slot w.node w.slot).volume).inFlight =
          (s.volume (s.slot w.node w.slot).volume).inFlight - 1

/-- R120, R79, R80, R99: a DONE OK for a FETCH with its 8 blocks, or for an ACCEPTED STORE, frees the stage; each piece
of its waiters, in waiter order, or of its owner counts in its slot, in its node's tally and in its volume, and the
last piece ends its request with DONE OK. A cumulative counter wraps at 2^48, a period counter stays at 2^32 - 1. The
count of passes owed is the model's (log entry 12). -/
def Obligations.CompletionsCountTheirPieces : Prop :=
  (∀ (d : DiskPort) (tag : Tag) (i : StageIdx) (s : State), (s.disk d).state = .present →
    matchReply d tag s = some i →
    ((s.stage i).kind = .fetch ∧ (s.stage i).state = .streaming ∧ (s.stage i).arrived = 8 ∨
      (s.stage i).kind = .store ∧ (s.stage i).state = .accepted) →
    ∃ t, exec (.diskDoneOk d tag) s = .next t ∧ (t.stage i).state = .free ∧
      (t.stage i).generation = (s.stage i).generation ∧ (∀ j, j ≠ i → t.stage j = s.stage j) ∧
      t.stages.order = s.stages.order.filter (· != i) ∧ t.stages.passesDue = s.stages.passesDue + 1 ∧
      t.management = s.management ∧ t.loan = s.loan ∧ t.lock = s.lock ∧ t.lending.map = s.lending.map ∧
      t.meter.meters = s.meter.meters ∧ (∀ e, ∃ lanes, t.disk e = { s.disk e with lanes := lanes }) ∧
      (∀ n, MoreFrames (s.node n) (t.node n)) ∧
      (∀ n k c, (s.stage i).pieces = [{ node := n, slot := k, count := c }] → (s.node n).state = .up →
        (∀ m, m ≠ n → t.tallyOf m = s.tallyOf m ∧ t.desk m = s.desk m) ∧ (∀ l, l ≠ k → t.slot n l = s.slot n l) ∧
        t.tallyOf n = (s.tallyOf n).add (s.slot n k).kind.isWrite c ∧
        (t.volume (s.slot n k).volume).inFlight = (s.volume (s.slot n k).volume).inFlight - 1 ∧
        (1 < (s.slot n k).outstanding →
          t.slot n k =
            { s.slot n k with
              outstanding := (s.slot n k).outstanding - 1, delivered := (s.slot n k).delivered + c,
              held := if (s.slot n k).kind.isWrite then (s.slot n k).held - c else (s.slot n k).held } ∧
          t.link.nodes = s.link.nodes) ∧
        ((s.slot n k).outstanding = 1 →
          (t.slot n k).state = .free ∧ (t.slot n k).held = 0 ∧
          (t.node n).out = (s.node n).out ++ [.done (s.slot n k).tag .ok ((s.slot n k).delivered + c)])) ∧
      ((s.stage i).kind = .fetch →
        ((s.stage i).waiters.Pairwise fun w x => ¬(w.node = x.node ∧ w.slot = x.slot)) →
        (∀ w ∈ (s.stage i).waiters, t.slot w.node w.slot =
          if 1 < (s.slot w.node w.slot).outstanding then
            { s.slot w.node w.slot with
              outstanding := (s.slot w.node w.slot).outstanding - 1,
              delivered := (s.slot w.node w.slot).delivered + w.count,
              held :=
                if (s.slot w.node w.slot).kind.isWrite then (s.slot w.node w.slot).held - w.count
                else (s.slot w.node w.slot).held }
          else (s.slot w.node w.slot).ended) ∧
        (∀ n k, (∀ w ∈ (s.stage i).waiters, ¬(w.node = n ∧ w.slot = k)) → t.slot n k = s.slot n k) ∧
        (∀ n, t.tallyOf n = ((s.stage i).waiters.filter (·.node == n)).foldl
          (fun x w => x.add (s.slot w.node w.slot).kind.isWrite w.count) (s.tallyOf n)) ∧
        (∀ v, t.volume v =
          { s.volume v with
            inFlight := (s.volume v).inFlight -
              ((s.stage i).waiters.filter fun w => (s.slot w.node w.slot).volume == v).length }) ∧
        ∀ n, (s.node n).state = .up → (t.node n).out = (s.node n).out ++
          ((s.stage i).waiters.filter fun w =>
            w.node == n && decide ((s.slot w.node w.slot).outstanding ≤ 1)).map fun w =>
              .done (s.slot w.node w.slot).tag .ok ((s.slot w.node w.slot).delivered + w.count))) ∧
  ∀ (x : Tally) (kind : ReqKind) (c : Nat), x.cumRead < 2 ^ 48 → x.cumWritten < 2 ^ 48 → x.perRead < 2 ^ 32 →
    x.perWritten < 2 ^ 32 → c ≤ 8 →
    let wrapped (total : Nat) : Nat := if total ≤ 2 ^ 48 - 1 then total else total - 2 ^ 48
    let capped (total : Nat) : Nat := if total ≤ 2 ^ 32 - 1 then total else 2 ^ 32 - 1
    (kind = .read ∨ kind = .lockread → x.add kind.isWrite c =
      { x with cumRead := wrapped (x.cumRead + c), perRead := capped (x.perRead + c) }) ∧
    (kind = .write ∨ kind = .unlockwrite → x.add kind.isWrite c =
      { x with cumWritten := wrapped (x.cumWritten + c), perWritten := capped (x.perWritten + c) })

/-- R136, R137: a send takes, of the highest lane with a chain head, the chain head nearest the front, from a PRESENT
disk that is not held and below its depth; the stage becomes SENT with send age 0 and its command goes to the tail of
the disk link's list, also on a link that is DOWN, which no run reaches (log entry 26). -/
def Obligations.SendsTakeTheHighestChainHead : Prop :=
  ∀ (d : DiskPort) (s : State),
    (((s.disk d).state = .absent ∨ (s.disk d).held = true ∨ (s.disk d).depth ≤ s.outstanding d ∨
        ∀ c : Sys2Proof.Class, ∀ i ∈ (s.disk d).lanes[c.val],
          ¬((s.stage i).state = .queued ∧ s.isChainHead i = true)) →
      exec (.send d) s = .next s) ∧
    ∀ (c : Sys2Proof.Class) (before after : List StageIdx) (i : StageIdx), (s.disk d).state = .present →
      (s.disk d).held = false → s.outstanding d < (s.disk d).depth →
      (s.disk d).lanes[c.val] = before ++ i :: after → (s.stage i).state = .queued → s.isChainHead i = true →
      (∀ j ∈ before, ¬((s.stage j).state = .queued ∧ s.isChainHead j = true)) →
      (∀ e : Sys2Proof.Class, c < e → ∀ j ∈ (s.disk d).lanes[e.val],
        ¬((s.stage j).state = .queued ∧ s.isChainHead j = true)) →
      ∃ t, exec (.send d) s = .next t ∧ t.stage i = { s.stage i with state := .sent, sendAge := 0 } ∧
        (∀ j, j ≠ i → t.stage j = s.stage j) ∧
        (∀ e : Sys2Proof.Class, (t.disk d).lanes[e.val] = (s.disk d).lanes[e.val].filter (· != i)) ∧
        (∀ e, e ≠ d → t.disk e = s.disk e ∧ t.diskLink e = s.diskLink e) ∧ t.link.nodes = s.link.nodes ∧
        t.diskLink d =
          { s.diskLink d with
            out := (s.diskLink d).out ++
              [match (s.stage i).kind with
               | .fetch => .fetch (s.stage i).tag (s.stage i).granule (s.stage i).lead
               | .store => .store (s.stage i).tag (s.stage i).granule (s.stage i).first (s.stage i).count
                   (s.stage i).data]
            produced := true } ∧
        t = { s with link := t.link, dispatch := t.dispatch, stages := t.stages }

/-- R145, R146: at a disk clock expiry with no step of an earlier one owed, a stage at a disk that does not time out
has its age raised, staying at 255, and a RETRYING one is SENT again; one that times out is left to its own step. With
steps owed, the expiry takes them first, in ascending stage index. The steps of their own, and their place before the
next expiry, are the model's (log entry 2), and so are the ascending order of resent commands (log entry 10), a command
produced for a link that is DOWN, which no run reaches (log entry 26), and that counts and resends come before the
timeouts of the same expiry (log entry 32). -/
def Obligations.DiskExpiryAgesAndResends : Prop :=
  (∀ s : State, (∀ i, (s.stage i).atDisk = true → (s.stage i).owed = false) →
    ∃ t, exec .diskClockExpiry s = .next t ∧
    (∀ i, t.stage i =
      if (s.stage i).state = .sent ∨ (s.stage i).state = .retrying then
        if s.settings.timeoutsDisabled = false ∧
            max 1 s.settings.retryTimeout ≤ min 255 ((s.stage i).sendAge + 1) then { s.stage i with owed := true }
        else { s.stage i with state := .sent, sendAge := min 255 ((s.stage i).sendAge + 1) }
      else if (s.stage i).state = .accepted ∨ (s.stage i).state = .streaming then
        if s.settings.timeoutsDisabled = false ∧
            max 1 s.settings.responseTimeout ≤ min 255 ((s.stage i).acceptAge + 1) then { s.stage i with owed := true }
        else { s.stage i with acceptAge := min 255 ((s.stage i).acceptAge + 1) }
      else s.stage i) ∧
    (∀ d, let resent := (List.finRange 256).filter fun i =>
        (s.stage i).state == .retrying && (s.stage i).disk == d && !(s.stage i).timesOut s.settings.timeouts
      t.diskLink d =
        { s.diskLink d with
          out := (s.diskLink d).out ++ resent.map fun i => (s.stage i).command
          produced := (s.diskLink d).produced || !resent.isEmpty }) ∧
    t.dispatch = { s.dispatch with
      clock := { running := s.settings.scale, expiries := s.dispatch.clock.expiries + 1 },
      timeoutsRead := s.settings.timeouts } ∧
    t = { s with link := { s.link with disks := t.link.disks }, stages := t.stages, dispatch := t.dispatch }) ∧
  ∀ s : State, ∃ u, runAll diskSteps s = .next u ∧ (∀ i, (u.stage i).atDisk = true → (u.stage i).owed = false) ∧
    exec .diskClockExpiry s = exec .diskClockExpiry u

/-- R146, R147, R81: the step of an expiry that times a stage out raises DISK_TIMEOUT of its disk, ends each request
with a piece on the stage with DONE TIMEOUT, and frees the stage; the disk record is not changed but for its lanes. The
owed mark and the settings as the expiry read them are the model's (log entry 2). Slots and wait lists of other
requests stay, a failed request's pieces on other stages are withdrawn, and one arbiter pass is owed (R111, R122, R124,
R125, R4). The count of passes owed is log entry 12, and that a freed stage keeps its command tag log entry 25. -/
def Obligations.TimeoutsFailTheStage : Prop :=
  ∀ (i : StageIdx) (s : State), (s.stage i).owed = true → s.dispatch.timeoutsRead.disabled = false →
    ((s.stage i).state = .sent ∨ (s.stage i).state = .retrying →
      max 1 s.dispatch.timeoutsRead.retry ≤ min 255 ((s.stage i).sendAge + 1) →
      ∃ t, exec (.retryTimeout i) s = .next t ∧ (t.stage i).state = .free ∧
        (t.stage i).generation = (s.stage i).generation ∧ t.flagSet (.diskTimeout (s.stage i).disk) = true ∧
        (∀ e, ∃ lanes, t.disk e = { s.disk e with lanes := lanes }) ∧ t.meter = s.meter ∧ t.loan = s.loan ∧
        t.lock = s.lock ∧ t.lending.map = s.lending.map ∧ t.link.disks = s.link.disks ∧
        (∀ n, MoreFrames (s.node n) (t.node n)) ∧
        StagesFailed (· == i) s t ∧ (∀ e, LanesLeft e s t) ∧ t.stages.passesDue = s.stages.passesDue + 1 ∧
        ∀ n k, (s.stage i).serves n k = true →
          RequestFailed n k .timeout s t ∧ SoleRequestFailed i n k .timeout s t) ∧
    ((s.stage i).state = .accepted ∨ (s.stage i).state = .streaming →
      max 1 s.dispatch.timeoutsRead.response ≤ min 255 ((s.stage i).acceptAge + 1) →
      ∃ t, exec (.responseTimeout i) s = .next t ∧ (t.stage i).state = .free ∧
        (t.stage i).generation = (s.stage i).generation ∧ t.flagSet (.diskTimeout (s.stage i).disk) = true ∧
        (∀ e, ∃ lanes, t.disk e = { s.disk e with lanes := lanes }) ∧ t.meter = s.meter ∧ t.loan = s.loan ∧
        t.lock = s.lock ∧ t.lending.map = s.lending.map ∧ t.link.disks = s.link.disks ∧
        (∀ n, MoreFrames (s.node n) (t.node n)) ∧
        StagesFailed (· == i) s t ∧ (∀ e, LanesLeft e s t) ∧ t.stages.passesDue = s.stages.passesDue + 1 ∧
        ∀ n k, (s.stage i).serves n k = true →
          RequestFailed n k .timeout s t ∧ SoleRequestFailed i n k .timeout s t)

/-! ## Locks -/

/-- R160: the step that brings a HELD lock to the hold limit breaks it with the age it reached, raises LOCK_BROKEN and
changes nothing else. The owed mark and the setting as the expiry read it are the model's (log entry 2). -/
def Obligations.HoldLimitBreaksTheLock : Prop :=
  ∀ (k : LockIdx) (s : State), (s.lockAt k).owed = true → (s.lockAt k).state = .held →
    s.lock.limitRead ≤ (s.lockAt k).age + 1 → ∃ t, exec (.holdLimit k) s = .next t ∧
      t.lockAt k = { s.lockAt k with state := .free, age := (s.lockAt k).age + 1, owed := false } ∧
      (∀ j, j ≠ k → t.lockAt j = s.lockAt j) ∧ t.flagSet .lockBroken = true ∧
      (∀ g, g ≠ .lockBroken → t.flagSet g = s.flagSet g) ∧
      t.lock = { s.lock with locks := t.lock.locks } ∧
      t = { s with link := { s.link with nodes := t.link.nodes }, lock := t.lock, management := t.management }

/-- R166, R167: the step that ends the active claim by its timer sets its node's retry count to 0 and hands over to
the first pending claim whose node holds a SHARED-UPDATE loan in force on its volume; those before it are discarded.
The owed mark is the model's (log entry 2). -/
def Obligations.TimerEndHandsTheLockoutOver : Prop :=
  ∀ (a : ActiveClaim) (s : State), s.lock.timerOwed = true → s.lock.active = some a → a.timer ≤ 1 →
    ∃ t, exec .lockoutTimer s = .next t ∧
      (∀ m, t.retryCount m = if m = a.claim.node then 0 else s.retryCount m) ∧ t.lock.locks = s.lock.locks ∧
      t.lock.timerOwed = false ∧
      ((∀ c ∈ s.lock.pendingClaims, s.sharesVolume c.volume c.node = false) →
        t.lock.active = none ∧ t.lock.pendingClaims = []) ∧
      (∀ before c after, s.lock.pendingClaims = before ++ c :: after →
        (∀ x ∈ before, s.sharesVolume x.volume x.node = false) → s.sharesVolume c.volume c.node = true →
        t.lock.active = some { claim := c, timer := s.settings.lockoutTime } ∧ t.lock.pendingClaims = after ∧
        t.flagSet .lockout = true) ∧
      t = { s with link := { s.link with nodes := t.link.nodes }, lock := t.lock, management := t.management }

/-- R161: BREAK LOCK by its index and entry. It raises no flag and changes no retry count and no claim. -/
def Obligations.BreakLockFreesAHeldLock : Prop :=
  ∀ (h : ManageHeader) (index : BitVec 16) (s : State), s.managedBy h →
    (63 < index.toNat → exec (.breakLock h index) s =
      .next (replied h.port (.manageReply h.tag 5 .badIndex 0 0 []) (heard h s))) ∧
    ∀ k : LockIdx, index.toNat = k.val →
      ((s.lockAt k).state = .free → exec (.breakLock h index) s =
        .next (replied h.port (.manageReply h.tag 5 .notFound 0 0 []) (heard h s))) ∧
      ((s.lockAt k).state = .held → exec (.breakLock h index) s =
        .next (replied h.port (.manageReply h.tag 5 .ok 0 0 [])
          ((heard h s).setLock k { s.lockAt k with state := .free, owed := false })))

/-! ## Management -/

/-- R171: every MANAGE frame is answered; where its port is UP afterwards, its reply, with its tag and operation, is
the last frame of the port's outgoing list. The table and index of its reply are left open (log entry 16). -/
def Obligations.EveryManageFrameIsAnsweredLast : Prop :=
  ∀ (c : Instr) (h : ManageHeader) (s : State), headerOf c = some h → ∃ t, exec c s = .next t ∧
    ((t.node h.port).state = .up → ∃ frames status table index image, (t.node h.port).out =
      frames ++ [.manageReply h.tag (operationOf c) status table index image])

/-- R174, R190, 10.6: a READ ENTRY with its index in range, of any table but MAP and TALLY, returns the entry's image
with status OK and changes nothing; the image of each table, MAP included, has the fields, in the order and with the
widths and codes of 10.6, reserved bytes 0, and its length. -/
def Obligations.ReadsReturnTheEntryAsItStands : Prop :=
  (∀ (h : ManageHeader) (s : State), s.managedBy h →
     let reply (table : Byte) (index : BitVec 16) (image : State → List Byte) : Result :=
       .next (replied h.port (.manageReply h.tag 1 .ok table index (image (heard h s))) (heard h s))
     exec (.readEntrySettings h 0) s = reply 0 0 settingsImage ∧
     (∀ (i : BitVec 16) (n : NodePort), i.toNat = n.val → exec (.readEntryPort h i) s =
       reply 1 i fun s => portImage (s.node n)) ∧
     (∀ (i : BitVec 16) (d : DiskPort), i.toNat = d.val →
       exec (.readEntryDisk h i) s = reply 2 i fun s => diskImage s d) ∧
     (∀ (i : BitVec 16) (v : Volume), i.toNat = v.val → exec (.readEntryVolume h i) s =
       reply 3 i fun s => volumeImage (s.volume v)) ∧
     (∀ (i : BitVec 16) (j : LoanIdx), i.toNat = j.val → exec (.readEntryLoan h i) s =
       reply 5 i fun s => loanImage (s.loanAt j)) ∧
     (∀ (i : BitVec 16) (x : Fin 8), i.toNat = x.val → exec (.readEntryClassmap h i) s =
       reply 6 i fun s => beBytes 1 s.management.classMap[x.val].val) ∧
     (∀ (i : BitVec 16) (n : NodePort), i.toNat = n.val → exec (.readEntryMeter h i) s =
       reply 7 i fun s => meterImage (s.meterOf n)) ∧
     (∀ (i : BitVec 16) (j : StageIdx), i.toNat = j.val → exec (.readEntryStage h i) s =
       reply 9 i fun s => stageImage s j) ∧
     (∀ (i : BitVec 16) (k : LockIdx), i.toNat = k.val → exec (.readEntryLock h i) s =
       reply 10 i fun s => lockImage (s.lockAt k)) ∧
     exec (.readEntryLockout h 0) s = reply 11 0 lockoutImage ∧
     (∀ (i : BitVec 16) (n : NodePort) (k : SlotIdx), i.toNat = n.val * 16 + k.val →
       exec (.readEntryRequest h i) s = reply 12 i fun s => requestImage (s.slot n k)) ∧
     exec (.readEntryNotice h 0) s = reply 13 0 fun s => noticeImage s.management) ∧
  (∀ s : State, (settingsImage s).length = 24 ∧ settingsImage s =
    ([0x1C, 0x5E, 0x32, 0x16, 0x01] : List Byte) ++ ([if s.settings.scale = .normal then 0 else 1] : List Byte) ++
      beBytes 1 s.settings.portReload ++ beBytes 1 s.settings.meterReload ++ beBytes 2 s.settings.lendingReload ++
      beBytes 1 s.settings.silenceLimit ++ beBytes 1 s.settings.holdLimit ++ beBytes 1 s.settings.lockoutLimit ++
      beBytes 1 s.settings.lockoutTime ++ beBytes 1 s.settings.tallyPeriod ++ beBytes 1 s.settings.responseTimeout ++
      beBytes 1 s.settings.retryTimeout ++ ([if s.settings.timeoutsDisabled then 1 else 0] : List Byte) ++
      beBytes 2 s.poolFree ++
      beBytes 2 s.freeStages ++ ([0, 0] : List Byte)) ∧
  (∀ r : NodeLink, (portImage r).length = 8 ∧ portImage r =
    ([if r.state = .down then 0 else 1, if r.manager then 1 else 0] : List Byte) ++ beBytes 1 r.ceiling.val ++
      ([0] : List Byte) ++
      beBytes 1 r.silence ++ ([0] : List Byte) ++ beBytes 2 r.damaged) ∧
  (∀ (s : State) (d : DiskPort), (diskImage s d).length = 20 ∧ diskImage s d =
    ([if (s.disk d).state = .absent then 0 else 1, if (s.disk d).held then 1 else 0] : List Byte) ++
      beBytes 1 (s.disk d).depth ++
      beBytes 1 (s.outstanding d) ++ beBytes 4 (s.disk d).capacity ++ beBytes 2 (s.disk d).lanes[0].length ++
      beBytes 2 (s.disk d).lanes[1].length ++ beBytes 2 (s.disk d).lanes[2].length ++
      beBytes 2 (s.disk d).lanes[3].length ++ ([if (s.diskLink d).state = .down then 0 else 1] : List Byte) ++
      beBytes 1 (s.diskLink d).silence ++ beBytes 2 (s.diskLink d).damaged) ∧
  (∀ v : VolumeEntry, (volumeImage v).length = 8 ∧ volumeImage v =
    ([match v.state with | .online => 0 | .frozen => 1 | .offline => 2,
      if v.lockoutEnable then 1 else 0] : List Byte) ++
      beBytes 2 v.first.val ++ beBytes 2 v.extents ++ beBytes 2 v.inFlight) ∧
  (∀ e : MapEntry, (mapImage e).length = 28 ∧ mapImage e =
    ([if e.stored.valid then 1 else 0] : List Byte) ++ beBytes 1 e.stored.volume.val ++ beBytes 1 e.stored.unit ++
      beBytes 1 e.stored.width ++ beBytes 4 e.stored.base ++ beBytes 4 e.stored.length ++
      beBytes 4 e.stored.diskBase ++
      e.stored.disks.toList ++
      ([match e.outcome with | .clean => 0 | .corrected => 1 | .uncorrectable => 2, 0, 0, 0] : List Byte)) ∧
  (∀ l : Loan, (loanImage l).length = 8 ∧ loanImage l =
    ([match l.state with | .free => 0 | .active => 1 | .due => 2 | .lapsed => 3 | .recalled => 4] : List Byte) ++
      beBytes 1 l.volume.val ++ beBytes 1 l.node.val ++
      ([match l.mode with | .read => 0 | .write => 1 | .sharedUpdate => 2] : List Byte) ++ beBytes 2 l.term ++
      beBytes 2 l.age) ∧
  (∀ m : Meter, (meterImage m).length = 8 ∧ meterImage m =
    beBytes 1 m.whole ++ beBytes 1 m.fraction ++ beBytes 2 m.burst ++ beBytes 2 m.credit ++ beBytes 1 m.spread ++
      ([0] : List Byte)) ∧
  (∀ (s : State) (i : StageIdx), (s.stage i).waiters.length ≤ 8 → (stageImage s i).length = 120 ∧ stageImage s i =
    ([match (s.stage i).state with
      | .free => 0 | .queued => 1 | .sent => 2 | .accepted => 3 | .streaming => 4 | .retrying => 5,
      if (s.stage i).abandoned then 1 else 0, if (s.stage i).kind = .fetch then 0 else 1] : List Byte) ++
      beBytes 1 (s.stage i).disk.val ++ beBytes 4 (s.stage i).granule ++ beBytes 1 (s.stage i).generation ++
      beBytes 1 (s.stage i).cls.val ++ beBytes 2 (s.stage i).tag ++ beBytes 1 (s.stage i).lead ++
      beBytes 1 (s.stage i).first ++ beBytes 1 (s.stage i).count ++ beBytes 1 (s.stage i).arrived ++
      ([if s.isChainHead i then 1 else 0] : List Byte) ++ beBytes 1 (s.stage i).sendAge ++
      beBytes 1 (s.stage i).acceptAge ++
      (match (s.stage i).owner with
        | some o => ([1] : List Byte) ++ beBytes 1 o.node.val ++ beBytes 1 o.slot.val
        | none => ([0, 0, 0] : List Byte)) ++
      beBytes 1 (s.stage i).waiters.length ++ ([0] : List Byte) ++
      ((s.stage i).waiters.map fun w =>
        beBytes 1 w.node.val ++ beBytes 1 w.slot.val ++ beBytes 1 w.first ++ beBytes 1 w.count ++
          beBytes 1 w.delivered ++ ([0, 0, 0] : List Byte) ++ beBytes 4 w.granule).flatten ++
      List.replicate (12 * (8 - (s.stage i).waiters.length)) 0) ∧
  (∀ l : Lock, (lockImage l).length = 12 ∧ lockImage l =
    ([if l.state = .free then 0 else 1] : List Byte) ++ beBytes 1 l.volume.val ++ beBytes 1 l.holder.val ++
      ([0] : List Byte) ++
      beBytes 4 l.granule ++ beBytes 1 l.age ++ ([0, 0, 0] : List Byte)) ∧
  (∀ s : State, s.lock.pendingClaims.length ≤ 4 → (lockoutImage s).length = 76 ∧ lockoutImage s =
    (match s.lock.active with
      | some a =>
        ([1] : List Byte) ++ beBytes 1 a.claim.node.val ++ beBytes 1 a.claim.volume.val ++ beBytes 1 a.timer ++
          beBytes 4 a.claim.granule
      | none => ([0, 0, 0, 0, 0, 0, 0, 0] : List Byte)) ++
      beBytes 1 s.lock.pendingClaims.length ++ ([0, 0, 0] : List Byte) ++
      (s.lock.pendingClaims.map fun c =>
        beBytes 1 c.node.val ++ beBytes 1 c.volume.val ++ ([0, 0] : List Byte) ++ beBytes 4 c.granule).flatten ++
      List.replicate (8 * (4 - s.lock.pendingClaims.length)) 0 ++
      ((List.finRange 32).map fun n => beBytes 1 (s.retryCount n)).flatten) ∧
  (∀ x : Slot, (requestImage x).length = 16 ∧ requestImage x =
    ([match x.state with | .free => 0 | .waiting => 1 | .admitted => 2,
      match x.kind with | .read => 0 | .write => 1 | .lockread => 2 | .unlockwrite => 3] : List Byte) ++
      beBytes 1 x.volume.val ++ beBytes 1 x.cls.val ++ beBytes 2 x.tag.toNat ++ beBytes 1 x.length ++
      ([match x.waitFor with | .none => 0 | .credit => 1 | .stages => 2] : List Byte) ++ beBytes 4 x.offset ++
      beBytes 1 x.outstanding ++ beBytes 1 x.delivered ++ beBytes 1 x.held ++ ([0] : List Byte)) ∧
  ∀ m : ManagementBlock, (noticeImage m).length = 42 ∧ noticeImage m =
    flagImageBytes m.flags ++ beBytes 2 m.loanLapseDetail ++ beBytes 2 m.mapCorrectedDetail ++
      beBytes 2 m.mapFaultDetail ++ beBytes 2 m.mapLossDetail ++ flagImageBytes m.masks ∧
    (flagImageBytes m.flags).length = 17 ∧
    ∀ f : Machine.Flag, (((flagImageBytes m.flags)[f.number / 8]?).map (·.getLsbD (f.number % 8))) =
      some (m.flags.getLsbD f.number)

/-- R22, R18, R23: a READ ENTRY of MAP is one read under the check code. The conditions of an entry are the model's
form of its check code (log entry 4). -/
def Obligations.MapReadsReportTheirOutcome : Prop :=
  ∀ (h : ManageHeader) (index : BitVec 16) (i : MapIdx) (s : State), s.managedBy h → index.toNat = i.val →
    ((s.mapEntry i).condition = .intact → exec (.readEntryMap h index) s =
      .next (replied h.port
        (.manageReply h.tag 1 .ok 4 index (mapImage { s.mapEntry i with outcome := .clean }))
        ((heard h s).setMapEntry i { s.mapEntry i with outcome := .clean }))) ∧
    (∀ original, (s.mapEntry i).condition = .recoverable original → exec (.readEntryMap h index) s =
      .next (replied h.port
        (.manageReply h.tag 1 .okCorrected 4 index
          (mapImage { stored := original, condition := .intact, outcome := .corrected }))
        (raiseFlag .mapCorrected i.val
          ((heard h s).setMapEntry i { stored := original, condition := .intact, outcome := .corrected })))) ∧
    ((s.mapEntry i).condition = .lost → exec (.readEntryMap h index) s =
      .next (replied h.port
        (.manageReply h.tag 1 .mapFault 4 index (mapImage { s.mapEntry i with outcome := .uncorrectable }))
        ((heard h s).setMapEntry i { s.mapEntry i with outcome := .uncorrectable })))

/-- R171, R173: a READ ENTRY and a WRITE ENTRY with the index out of its table's range are answered BAD_INDEX, and a
WRITE ENTRY of a wholly read-only table READ_ONLY; nothing changes. -/
def Obligations.AccessesOutOfRangeChangeNothing : Prop :=
  ∀ (h : ManageHeader) (index : BitVec 16) (image : List Byte) (s : State), s.managedBy h →
    let answer (operation : Byte) (status : ReplyStatus) (table : Byte) : Result :=
      .next (replied h.port (.manageReply h.tag operation status table index []) (heard h s))
    (0 < index.toNat → exec (.readEntrySettings h index) s = answer 1 .badIndex 0 ∧
      exec (.readEntryLockout h index) s = answer 1 .badIndex 11 ∧
      exec (.readEntryNotice h index) s = answer 1 .badIndex 13 ∧
      exec (.writeEntrySettings h index image) s = answer 2 .badIndex 0 ∧
      exec (.writeEntryNotice h index image) s = answer 2 .badIndex 13) ∧
    (31 < index.toNat → exec (.readEntryPort h index) s = answer 1 .badIndex 1 ∧
      exec (.readEntryMeter h index) s = answer 1 .badIndex 7 ∧
      exec (.writeEntryPort h index image) s = answer 2 .badIndex 1 ∧
      exec (.writeEntryMeter h index image) s = answer 2 .badIndex 7) ∧
    (15 < index.toNat → exec (.readEntryDisk h index) s = answer 1 .badIndex 2 ∧
      exec (.writeEntryDisk h index image) s = answer 2 .badIndex 2) ∧
    (255 < index.toNat → exec (.readEntryVolume h index) s = answer 1 .badIndex 3 ∧
      exec (.readEntryStage h index) s = answer 1 .badIndex 9 ∧
      exec (.writeEntryVolume h index image) s = answer 2 .badIndex 3) ∧
    (4095 < index.toNat → exec (.readEntryMap h index) s = answer 1 .badIndex 4 ∧
      exec (.writeEntryMap h index image) s = answer 2 .badIndex 4) ∧
    (511 < index.toNat → exec (.readEntryLoan h index) s = answer 1 .badIndex 5 ∧
      exec (.readEntryRequest h index) s = answer 1 .badIndex 12) ∧
    (7 < index.toNat → exec (.readEntryClassmap h index) s = answer 1 .badIndex 6 ∧
      exec (.writeEntryClassmap h index image) s = answer 2 .badIndex 6) ∧
    (63 < index.toNat → exec (.readEntryLock h index) s = answer 1 .badIndex 10) ∧
    ∀ table, exec (.writeEntryReadOnly h table index image) s =
      answer 2 .readOnly (BitVec.ofNat 8 (readOnlyCode table))

/-- R7, R8, R190: a MAP image that meets none of the conditions of R7 over its fields is stored byte for byte: the
image of the new entry has the written image's 24 bytes of fields, with a fresh check code and outcome CLEAN; one that
meets any of them is refused BAD_VALUE and changes nothing. The condition of an entry is the model's form of its check
code (log entry 4). -/
def Obligations.MapWritesStoreEveryByte : Prop :=
  (∀ (h : ManageHeader) (index : BitVec 16) (b : List Byte) (i : MapIdx) (s : State), s.managedBy h →
     index.toNat = i.val → b.length = 28 →
     (∀ e, extentOfImage b = some e → e.acceptable = true ∧ ∃ t, exec (.writeEntryMap h index b) s = .next t ∧
       t = replied h.port (.manageReply h.tag 2 .ok 4 index [])
         ((heard h s).setMapEntry i { stored := e, condition := .intact, outcome := .clean }) ∧
       (mapImage (t.mapEntry i)).take 24 = b.take 24) ∧
     (extentOfImage b = none → exec (.writeEntryMap h index b) s =
       .next (replied h.port (.manageReply h.tag 2 .badValue 4 index []) (heard h s)))) ∧
  ∀ (h : ManageHeader) (index : BitVec 16) (b : List Byte) (i : MapIdx) (s : State), s.managedBy h →
    index.toNat = i.val → b.length = 28 →
    (MapImageRefused b → exec (.writeEntryMap h index b) s =
      .next (replied h.port (.manageReply h.tag 2 .badValue 4 index []) (heard h s))) ∧
    (¬MapImageRefused b → ∃ t, exec (.writeEntryMap h index b) s = .next t ∧
      t = replied h.port (.manageReply h.tag 2 .ok 4 index []) ((heard h s).setMapEntry i (t.mapEntry i)) ∧
      (t.mapEntry i).condition = .intact ∧ (t.mapEntry i).outcome = .clean ∧
      (mapImage (t.mapEntry i)).take 24 = b.take 24)

/-- R175: WRITE ENTRY of SETTINGS takes every writable setting in one step, or none where one is out of its range. -/
def Obligations.SettingsAreWrittenWholeOrNotAtAll : Prop :=
  ∀ (h : ManageHeader) (b : List Byte) (s : State), s.managedBy h → b.length = 24 →
    (field b 10 1 = 0 ∨ field b 11 1 = 0 ∨ field b 13 1 = 0 ∨ 15 < field b 13 1 ∨ field b 14 1 = 0 ∨ 15 < field b 12 1 ∨
        15 < field b 15 1 ∨ 15 < field b 16 1 ∨ 1 < field b 5 1 ∨ 1 < field b 17 1 →
      exec (.writeEntrySettings h 0 b) s =
        .next (replied h.port (.manageReply h.tag 2 .badValue 0 0 []) (heard h s))) ∧
    (¬(field b 10 1 = 0 ∨ field b 11 1 = 0 ∨ field b 13 1 = 0 ∨ 15 < field b 13 1 ∨ field b 14 1 = 0 ∨
        15 < field b 12 1 ∨ 15 < field b 15 1 ∨ 15 < field b 16 1 ∨ 1 < field b 5 1 ∨ 1 < field b 17 1) →
      exec (.writeEntrySettings h 0 b) s =
        .next (replied h.port (.manageReply h.tag 2 .ok 0 0 [])
          { heard h s with
            management := { s.management with
              settings :=
                { portReload := field b 6 1, meterReload := field b 7 1, lendingReload := field b 8 2,
                  scale := if field b 5 1 = 0 then .normal else .short, silenceLimit := field b 10 1,
                  holdLimit := field b 11 1, lockoutLimit := field b 12 1, lockoutTime := field b 13 1,
                  tallyPeriod := field b 14 1, responseTimeout := field b 15 1, retryTimeout := field b 16 1,
                  timeoutsDisabled := decide (field b 17 1 = 1) } } }))

/-- R63, R132, R177, R180, R2: WRITE ENTRY of PORT (class ceiling and manager attribute alone, refused CONFLICT where
no manager port would be left), DISK (depth alone), CLASSMAP, NOTICE (masks alone) and VOLUME, accepted in their
ranges and refused BAD_VALUE outside them. R173: an image of another length than its table's is refused BAD_VALUE for
every writable table. -/
def Obligations.WritesObeyTheirRanges : Prop :=
  (∀ (h : ManageHeader) (index : BitVec 16) (b : List Byte) (s : State), s.managedBy h →
     let answer (status : ReplyStatus) (table : Byte) (t : State) : Result :=
       .next (replied h.port (.manageReply h.tag 2 status table index []) t)
     (∀ n : NodePort, index.toNat = n.val → b.length = 8 →
       (1 < field b 1 1 ∨ 3 < field b 2 1 → exec (.writeEntryPort h index b) s = answer .badValue 1 (heard h s)) ∧
       (field b 1 1 = 0 → field b 2 1 ≤ 3 → (∀ m, m ≠ n → (s.node m).manager = false) →
         exec (.writeEntryPort h index b) s = answer .conflict 1 (heard h s)) ∧
       ∀ (c : Sys2Proof.Class), field b 2 1 = c.val → field b 1 1 ≤ 1 →
         (field b 1 1 = 1 ∨ ∃ m, m ≠ n ∧ (s.node m).manager = true) → exec (.writeEntryPort h index b) s =
           answer .ok 1 ((heard h s).setNode n
             { (heard h s).node n with manager := decide (field b 1 1 = 1), ceiling := c })) ∧
     (∀ d : DiskPort, index.toNat = d.val → b.length = 20 → exec (.writeEntryDisk h index b) s =
       if 1 ≤ field b 2 1 ∧ field b 2 1 ≤ 8 then
         answer .ok 2 ((heard h s).setDisk d { s.disk d with depth := field b 2 1 })
       else answer .badValue 2 (heard h s)) ∧
     (∀ (x : Fin 8) (c : Sys2Proof.Class), index.toNat = x.val → b.length = 1 → field b 0 1 = c.val →
       exec (.writeEntryClassmap h index b) s = answer .ok 6
         { heard h s with
           management := { s.management with classMap := s.management.classMap.set x.val c } }) ∧
     (index.toNat < 8 → b.length = 1 → 3 < field b 0 1 →
       exec (.writeEntryClassmap h index b) s = answer .badValue 6 (heard h s)) ∧
     (index.toNat = 0 → b.length = 42 → exec (.writeEntryNotice h index b) s = answer .ok 13
       { heard h s with management := { s.management with masks := flagImageOfBytes (b.drop 25) } }) ∧
     ∀ v : Volume, index.toNat = v.val → b.length = 8 →
       (2 < field b 0 1 ∨ 1 < field b 1 1 ∨ 4095 < field b 2 2 ∨ 256 < field b 4 2 →
         exec (.writeEntryVolume h index b) s = answer .badValue 3 (heard h s)) ∧
       ∀ (state : VolState) (first : MapIdx), VolState.code state = field b 0 1 → first.val = field b 2 2 →
         field b 1 1 ≤ 1 → field b 4 2 ≤ 256 → exec (.writeEntryVolume h index b) s = answer .ok 3
           ((heard h s).setVolume v
             { state := state, first := first, extents := field b 4 2, lockoutEnable := decide (field b 1 1 = 1),
               inFlight := (s.volume v).inFlight })) ∧
  ∀ (h : ManageHeader) (index : BitVec 16) (b : List Byte) (s : State), s.managedBy h →
    let refused (table : Byte) : Result :=
      .next (replied h.port (.manageReply h.tag 2 .badValue table index []) (heard h s))
    (index.toNat < 1 → b.length ≠ 24 → exec (.writeEntrySettings h index b) s = refused 0) ∧
    (index.toNat < 32 → b.length ≠ 8 → exec (.writeEntryPort h index b) s = refused 1 ∧
      exec (.writeEntryMeter h index b) s = refused 7) ∧
    (index.toNat < 16 → b.length ≠ 20 → exec (.writeEntryDisk h index b) s = refused 2) ∧
    (index.toNat < 256 → b.length ≠ 8 → exec (.writeEntryVolume h index b) s = refused 3) ∧
    (index.toNat < 4096 → b.length ≠ 28 → exec (.writeEntryMap h index b) s = refused 4) ∧
    (index.toNat < 8 → b.length ≠ 1 → exec (.writeEntryClassmap h index b) s = refused 6) ∧
    (index.toNat < 1 → b.length ≠ 42 → exec (.writeEntryNotice h index b) s = refused 13)

/-- R181: CLEAR NOTICES clears every marked flag and leaves the others, the details and the masks as they were; its
reply is OK. -/
def Obligations.ClearNoticesClearsTheMarkedFlags : Prop :=
  ∀ (h : ManageHeader) (selection : FlagImage) (s : State), s.managedBy h →
    ∃ t, exec (.clearNotices h selection) s = .next t ∧
      (∀ f, t.flagSet f = (s.flagSet f && !selection.getLsbD f.number)) ∧
      t.management = { s.management with flags := t.management.flags } ∧
      t = { replied h.port (.manageReply h.tag 6 .ok 0 0 []) (heard h s) with management := t.management }

/-- R183, R88 with R68, R5, R45, R90, R104, R128, R151, R153, R169, R47, R170: what RESTART PART leaves: node links and
disk links keep state and damaged counts, with silence count 0; each UP node got DONE ABORTED for its slots in use in
ascending order, before the reply, and each PRESENT disk DROP. That expiries restart at 0, that owed steps, attempts
and passes go, and that frames of the restart alone count as produced is the model's (log entries 7, 9, 12, 13 and 20),
and so is DROP for a PRESENT disk whose link is DOWN, which no run reaches (log entry 26). -/
def Obligations.RestartPartEndsAllWork : Prop :=
  ∀ (h : ManageHeader) (s : State), s.managedBy h → ∃ t, exec (.restartPart h) s = .next t ∧
    (∀ n, (t.node n).state = (s.node n).state ∧ (t.node n).manager = (s.node n).manager ∧
      (t.node n).ceiling = (s.node n).ceiling ∧ (t.node n).damaged = (s.node n).damaged ∧ (t.node n).silence = 0 ∧
      (t.node n).out = (s.node n).out ++
        (if (s.node n).state = .up then
          (slotIdxs.filter fun k => (s.slot n k).state != .free).map fun k =>
            .done (s.slot n k).tag .aborted (s.slot n k).delivered
        else []) ++
        (if n = h.port then [.manageReply h.tag 7 .ok 0 0 []] else [])) ∧
    (∀ d, t.diskLink d =
      { s.diskLink d with
        silence := 0, owed := false, produced := decide ((s.disk d).state = .present),
        out := (s.diskLink d).out ++ (if (s.disk d).state = .present then [.drop] else []) }) ∧
    (∀ n k, t.slot n k =
      { s.slot n k with state := .free, waitFor := .none, outstanding := 0, delivered := 0, held := 0, data := [] }) ∧
    (∀ n, (t.desk n).waitList = [] ∧ (t.desk n).attemptsDue = 0) ∧
    (∀ v, t.volume v = { s.volume v with inFlight := 0 }) ∧ t.lending.map = s.lending.map ∧
    (∀ i, (t.loanAt i).age = 0 ∧
      (t.loanAt i).state = (if (s.loanAt i).state = .due then .active else (s.loanAt i).state) ∧
      (t.loanAt i).mode = (s.loanAt i).mode ∧ (t.loanAt i).term = (s.loanAt i).term ∧
      (t.loanAt i).volume = (s.loanAt i).volume ∧ (t.loanAt i).node = (s.loanAt i).node) ∧
    (∀ n, t.meterOf n = { s.meterOf n with credit := (s.meterOf n).burst, spread := 0 }) ∧
    t.meter.tallies = s.meter.tallies ∧ t.meter.periodCount = s.meter.periodCount ∧
    (∀ i, (t.stage i).state = .free ∧ (t.stage i).generation = (s.stage i).generation ∧ (t.stage i).waiters = [] ∧
      (t.stage i).owner = none) ∧ t.stages.order = [] ∧ t.stages.lastServed = 31 ∧
    t.stages.passesDue = 0 ∧ (∀ d, t.disk d = { s.disk d with lanes := Vector.replicate 4 [] }) ∧
    (∀ k, t.lockAt k = { s.lockAt k with state := .free, owed := false }) ∧ (∀ n, t.retryCount n = 0) ∧
    t.lock.active = none ∧ t.lock.pendingClaims = [] ∧ t.management = s.management ∧
    t.link.clock.expiries = 0 ∧ t.loan.clock.expiries = 0 ∧ t.meter.clock.expiries = 0 ∧
    t.dispatch.clock.expiries = 0

/-- R171, R185, R189: a MANAGE frame from an UP port without the manager attribute is answered NOT_PERMITTED; one of
no servable operation is answered BAD_TABLE where it is a complete READ ENTRY or WRITE ENTRY, and else BAD_VALUE, with
its operation byte; a RESTART PORT above its range BAD_INDEX. Nothing changes. The table and index of the reply are
left open (log entry 16). -/
def Obligations.RefusedManageFramesChangeNothing : Prop :=
  (∀ (c : Instr) (h : ManageHeader) (s : State), headerOf c = some h → (s.node h.port).state = .up →
    (s.node h.port).manager = false → ∃ table index, exec c s =
      .next (replied h.port (.manageReply h.tag (operationOf c) .notPermitted table index []) (heard h s))) ∧
  ∀ (h : ManageHeader) (s : State), s.managedBy h →
    (∀ operation operands, servable operation operands = false → ∃ table index,
      exec (.manageUnknownOperation h operation operands) s =
        .next (replied h.port
          (.manageReply h.tag operation
            (if (operation = 1 ∨ operation = 2) ∧ 4 ≤ operands.length then .badTable else .badValue) table index [])
          (heard h s))) ∧
    (∀ port : Byte, 31 < port.toNat → exec (.restartPortNode h port) s =
      .next (replied h.port (.manageReply h.tag 8 .badIndex 0 0 []) (heard h s))) ∧
    ∀ port : Byte, 15 < port.toNat → exec (.restartPortDisk h port) s =
      .next (replied h.port (.manageReply h.tag 8 .badIndex 0 0 []) (heard h s))
end

