-- ==== Sys2Proof/Laws/State.lean ====
section
/-! SUPPORT. Reading a record after writing one: one lemma a field for each update of `State`. -/

namespace Sys2Proof.Machine

/-! ### setNode -/

@[simp] theorem State.setNode_admission (s : State) (n : NodePort) (r : NodeLink) : (s.setNode n r).admission = s.admission := rfl
@[simp] theorem State.setNode_lending (s : State) (n : NodePort) (r : NodeLink) : (s.setNode n r).lending = s.lending := rfl
@[simp] theorem State.setNode_loan (s : State) (n : NodePort) (r : NodeLink) : (s.setNode n r).loan = s.loan := rfl
@[simp] theorem State.setNode_meter (s : State) (n : NodePort) (r : NodeLink) : (s.setNode n r).meter = s.meter := rfl
@[simp] theorem State.setNode_stages (s : State) (n : NodePort) (r : NodeLink) : (s.setNode n r).stages = s.stages := rfl
@[simp] theorem State.setNode_dispatch (s : State) (n : NodePort) (r : NodeLink) : (s.setNode n r).dispatch = s.dispatch := rfl
@[simp] theorem State.setNode_lock (s : State) (n : NodePort) (r : NodeLink) : (s.setNode n r).lock = s.lock := rfl
@[simp] theorem State.setNode_management (s : State) (n : NodePort) (r : NodeLink) : (s.setNode n r).management = s.management := rfl
@[simp] theorem State.setNode_pending (s : State) (n : NodePort) (r : NodeLink) : (s.setNode n r).pending = s.pending := rfl
@[simp] theorem State.setNode_draws (s : State) (n : NodePort) (r : NodeLink) : (s.setNode n r).draws = s.draws := rfl
@[simp] theorem State.setNode_link_disks (s : State) (n : NodePort) (r : NodeLink) : (s.setNode n r).link.disks = s.link.disks := rfl
@[simp] theorem State.setNode_link_clock (s : State) (n : NodePort) (r : NodeLink) : (s.setNode n r).link.clock = s.link.clock := rfl
@[simp] theorem State.setNode_link_limitRead (s : State) (n : NodePort) (r : NodeLink) : (s.setNode n r).link.limitRead = s.link.limitRead := rfl
@[simp] theorem State.setNode_diskLink (s : State) (n : NodePort) (r : NodeLink) (m : DiskPort) : (s.setNode n r).diskLink m = s.diskLink m := rfl
@[simp] theorem State.setNode_desk (s : State) (n : NodePort) (r : NodeLink) (m : NodePort) : (s.setNode n r).desk m = s.desk m := rfl
@[simp] theorem State.setNode_volume (s : State) (n : NodePort) (r : NodeLink) (m : Volume) : (s.setNode n r).volume m = s.volume m := rfl
@[simp] theorem State.setNode_mapEntry (s : State) (n : NodePort) (r : NodeLink) (m : MapIdx) : (s.setNode n r).mapEntry m = s.mapEntry m := rfl
@[simp] theorem State.setNode_loanAt (s : State) (n : NodePort) (r : NodeLink) (m : LoanIdx) : (s.setNode n r).loanAt m = s.loanAt m := rfl
@[simp] theorem State.setNode_meterOf (s : State) (n : NodePort) (r : NodeLink) (m : NodePort) : (s.setNode n r).meterOf m = s.meterOf m := rfl
@[simp] theorem State.setNode_tallyOf (s : State) (n : NodePort) (r : NodeLink) (m : NodePort) : (s.setNode n r).tallyOf m = s.tallyOf m := rfl
@[simp] theorem State.setNode_stage (s : State) (n : NodePort) (r : NodeLink) (m : StageIdx) : (s.setNode n r).stage m = s.stage m := rfl
@[simp] theorem State.setNode_disk (s : State) (n : NodePort) (r : NodeLink) (m : DiskPort) : (s.setNode n r).disk m = s.disk m := rfl
@[simp] theorem State.setNode_lockAt (s : State) (n : NodePort) (r : NodeLink) (m : LockIdx) : (s.setNode n r).lockAt m = s.lockAt m := rfl
@[simp] theorem State.setNode_retryCount (s : State) (n : NodePort) (r : NodeLink) (m : NodePort) : (s.setNode n r).retryCount m = s.retryCount m := rfl
@[simp] theorem State.setNode_slot (s : State) (n : NodePort) (r : NodeLink) (m : NodePort) (k : SlotIdx) : (s.setNode n r).slot m k = s.slot m k := rfl
@[simp] theorem State.setNode_settings (s : State) (n : NodePort) (r : NodeLink) : (s.setNode n r).settings = s.settings := rfl
@[simp] theorem State.setNode_node (s : State) (n : NodePort) (r : NodeLink) : (s.setNode n r).node n = r := by simp [State.node, State.setNode]
theorem State.setNode_node_ne (s : State) (n : NodePort) (r : NodeLink) (m : NodePort) (h : m ≠ n) : (s.setNode n r).node m = s.node m := by
  have : n.val ≠ m.val := fun e => h (Fin.ext e.symm)
  simp [State.node, State.setNode, this]
theorem State.setNode_node_eq (s : State) (n : NodePort) (r : NodeLink) (m : NodePort) : (s.setNode n r).node m = if m = n then r else s.node m := by
  by_cases h : m = n
  · subst h; simp
  · simp [h, State.setNode_node_ne s n r m h]

/-! ### setDiskLink -/

@[simp] theorem State.setDiskLink_admission (s : State) (n : DiskPort) (r : DiskLink) : (s.setDiskLink n r).admission = s.admission := rfl
@[simp] theorem State.setDiskLink_lending (s : State) (n : DiskPort) (r : DiskLink) : (s.setDiskLink n r).lending = s.lending := rfl
@[simp] theorem State.setDiskLink_loan (s : State) (n : DiskPort) (r : DiskLink) : (s.setDiskLink n r).loan = s.loan := rfl
@[simp] theorem State.setDiskLink_meter (s : State) (n : DiskPort) (r : DiskLink) : (s.setDiskLink n r).meter = s.meter := rfl
@[simp] theorem State.setDiskLink_stages (s : State) (n : DiskPort) (r : DiskLink) : (s.setDiskLink n r).stages = s.stages := rfl
@[simp] theorem State.setDiskLink_dispatch (s : State) (n : DiskPort) (r : DiskLink) : (s.setDiskLink n r).dispatch = s.dispatch := rfl
@[simp] theorem State.setDiskLink_lock (s : State) (n : DiskPort) (r : DiskLink) : (s.setDiskLink n r).lock = s.lock := rfl
@[simp] theorem State.setDiskLink_management (s : State) (n : DiskPort) (r : DiskLink) : (s.setDiskLink n r).management = s.management := rfl
@[simp] theorem State.setDiskLink_pending (s : State) (n : DiskPort) (r : DiskLink) : (s.setDiskLink n r).pending = s.pending := rfl
@[simp] theorem State.setDiskLink_draws (s : State) (n : DiskPort) (r : DiskLink) : (s.setDiskLink n r).draws = s.draws := rfl
@[simp] theorem State.setDiskLink_link_nodes (s : State) (n : DiskPort) (r : DiskLink) : (s.setDiskLink n r).link.nodes = s.link.nodes := rfl
@[simp] theorem State.setDiskLink_link_clock (s : State) (n : DiskPort) (r : DiskLink) : (s.setDiskLink n r).link.clock = s.link.clock := rfl
@[simp] theorem State.setDiskLink_link_limitRead (s : State) (n : DiskPort) (r : DiskLink) : (s.setDiskLink n r).link.limitRead = s.link.limitRead := rfl
@[simp] theorem State.setDiskLink_node (s : State) (n : DiskPort) (r : DiskLink) (m : NodePort) : (s.setDiskLink n r).node m = s.node m := rfl
@[simp] theorem State.setDiskLink_desk (s : State) (n : DiskPort) (r : DiskLink) (m : NodePort) : (s.setDiskLink n r).desk m = s.desk m := rfl
@[simp] theorem State.setDiskLink_volume (s : State) (n : DiskPort) (r : DiskLink) (m : Volume) : (s.setDiskLink n r).volume m = s.volume m := rfl
@[simp] theorem State.setDiskLink_mapEntry (s : State) (n : DiskPort) (r : DiskLink) (m : MapIdx) : (s.setDiskLink n r).mapEntry m = s.mapEntry m := rfl
@[simp] theorem State.setDiskLink_loanAt (s : State) (n : DiskPort) (r : DiskLink) (m : LoanIdx) : (s.setDiskLink n r).loanAt m = s.loanAt m := rfl
@[simp] theorem State.setDiskLink_meterOf (s : State) (n : DiskPort) (r : DiskLink) (m : NodePort) : (s.setDiskLink n r).meterOf m = s.meterOf m := rfl
@[simp] theorem State.setDiskLink_tallyOf (s : State) (n : DiskPort) (r : DiskLink) (m : NodePort) : (s.setDiskLink n r).tallyOf m = s.tallyOf m := rfl
@[simp] theorem State.setDiskLink_stage (s : State) (n : DiskPort) (r : DiskLink) (m : StageIdx) : (s.setDiskLink n r).stage m = s.stage m := rfl
@[simp] theorem State.setDiskLink_disk (s : State) (n : DiskPort) (r : DiskLink) (m : DiskPort) : (s.setDiskLink n r).disk m = s.disk m := rfl
@[simp] theorem State.setDiskLink_lockAt (s : State) (n : DiskPort) (r : DiskLink) (m : LockIdx) : (s.setDiskLink n r).lockAt m = s.lockAt m := rfl
@[simp] theorem State.setDiskLink_retryCount (s : State) (n : DiskPort) (r : DiskLink) (m : NodePort) : (s.setDiskLink n r).retryCount m = s.retryCount m := rfl
@[simp] theorem State.setDiskLink_slot (s : State) (n : DiskPort) (r : DiskLink) (m : NodePort) (k : SlotIdx) : (s.setDiskLink n r).slot m k = s.slot m k := rfl
@[simp] theorem State.setDiskLink_settings (s : State) (n : DiskPort) (r : DiskLink) : (s.setDiskLink n r).settings = s.settings := rfl
@[simp] theorem State.setDiskLink_diskLink (s : State) (n : DiskPort) (r : DiskLink) : (s.setDiskLink n r).diskLink n = r := by simp [State.diskLink, State.setDiskLink]
theorem State.setDiskLink_diskLink_ne (s : State) (n : DiskPort) (r : DiskLink) (m : DiskPort) (h : m ≠ n) : (s.setDiskLink n r).diskLink m = s.diskLink m := by
  have : n.val ≠ m.val := fun e => h (Fin.ext e.symm)
  simp [State.diskLink, State.setDiskLink, this]
theorem State.setDiskLink_diskLink_eq (s : State) (n : DiskPort) (r : DiskLink) (m : DiskPort) : (s.setDiskLink n r).diskLink m = if m = n then r else s.diskLink m := by
  by_cases h : m = n
  · subst h; simp
  · simp [h, State.setDiskLink_diskLink_ne s n r m h]

/-! ### setDesk -/

@[simp] theorem State.setDesk_link (s : State) (n : NodePort) (r : Desk) : (s.setDesk n r).link = s.link := rfl
@[simp] theorem State.setDesk_lending (s : State) (n : NodePort) (r : Desk) : (s.setDesk n r).lending = s.lending := rfl
@[simp] theorem State.setDesk_loan (s : State) (n : NodePort) (r : Desk) : (s.setDesk n r).loan = s.loan := rfl
@[simp] theorem State.setDesk_meter (s : State) (n : NodePort) (r : Desk) : (s.setDesk n r).meter = s.meter := rfl
@[simp] theorem State.setDesk_stages (s : State) (n : NodePort) (r : Desk) : (s.setDesk n r).stages = s.stages := rfl
@[simp] theorem State.setDesk_dispatch (s : State) (n : NodePort) (r : Desk) : (s.setDesk n r).dispatch = s.dispatch := rfl
@[simp] theorem State.setDesk_lock (s : State) (n : NodePort) (r : Desk) : (s.setDesk n r).lock = s.lock := rfl
@[simp] theorem State.setDesk_management (s : State) (n : NodePort) (r : Desk) : (s.setDesk n r).management = s.management := rfl
@[simp] theorem State.setDesk_pending (s : State) (n : NodePort) (r : Desk) : (s.setDesk n r).pending = s.pending := rfl
@[simp] theorem State.setDesk_draws (s : State) (n : NodePort) (r : Desk) : (s.setDesk n r).draws = s.draws := rfl
@[simp] theorem State.setDesk_node (s : State) (n : NodePort) (r : Desk) (m : NodePort) : (s.setDesk n r).node m = s.node m := rfl
@[simp] theorem State.setDesk_diskLink (s : State) (n : NodePort) (r : Desk) (m : DiskPort) : (s.setDesk n r).diskLink m = s.diskLink m := rfl
@[simp] theorem State.setDesk_volume (s : State) (n : NodePort) (r : Desk) (m : Volume) : (s.setDesk n r).volume m = s.volume m := rfl
@[simp] theorem State.setDesk_mapEntry (s : State) (n : NodePort) (r : Desk) (m : MapIdx) : (s.setDesk n r).mapEntry m = s.mapEntry m := rfl
@[simp] theorem State.setDesk_loanAt (s : State) (n : NodePort) (r : Desk) (m : LoanIdx) : (s.setDesk n r).loanAt m = s.loanAt m := rfl
@[simp] theorem State.setDesk_meterOf (s : State) (n : NodePort) (r : Desk) (m : NodePort) : (s.setDesk n r).meterOf m = s.meterOf m := rfl
@[simp] theorem State.setDesk_tallyOf (s : State) (n : NodePort) (r : Desk) (m : NodePort) : (s.setDesk n r).tallyOf m = s.tallyOf m := rfl
@[simp] theorem State.setDesk_stage (s : State) (n : NodePort) (r : Desk) (m : StageIdx) : (s.setDesk n r).stage m = s.stage m := rfl
@[simp] theorem State.setDesk_disk (s : State) (n : NodePort) (r : Desk) (m : DiskPort) : (s.setDesk n r).disk m = s.disk m := rfl
@[simp] theorem State.setDesk_lockAt (s : State) (n : NodePort) (r : Desk) (m : LockIdx) : (s.setDesk n r).lockAt m = s.lockAt m := rfl
@[simp] theorem State.setDesk_retryCount (s : State) (n : NodePort) (r : Desk) (m : NodePort) : (s.setDesk n r).retryCount m = s.retryCount m := rfl
@[simp] theorem State.setDesk_settings (s : State) (n : NodePort) (r : Desk) : (s.setDesk n r).settings = s.settings := rfl
@[simp] theorem State.setDesk_desk (s : State) (n : NodePort) (r : Desk) : (s.setDesk n r).desk n = r := by simp [State.desk, State.setDesk]
theorem State.setDesk_desk_ne (s : State) (n : NodePort) (r : Desk) (m : NodePort) (h : m ≠ n) : (s.setDesk n r).desk m = s.desk m := by
  have : n.val ≠ m.val := fun e => h (Fin.ext e.symm)
  simp [State.desk, State.setDesk, this]
theorem State.setDesk_desk_eq (s : State) (n : NodePort) (r : Desk) (m : NodePort) : (s.setDesk n r).desk m = if m = n then r else s.desk m := by
  by_cases h : m = n
  · subst h; simp
  · simp [h, State.setDesk_desk_ne s n r m h]

/-! ### setVolume -/

@[simp] theorem State.setVolume_link (s : State) (n : Volume) (r : VolumeEntry) : (s.setVolume n r).link = s.link := rfl
@[simp] theorem State.setVolume_admission (s : State) (n : Volume) (r : VolumeEntry) : (s.setVolume n r).admission = s.admission := rfl
@[simp] theorem State.setVolume_loan (s : State) (n : Volume) (r : VolumeEntry) : (s.setVolume n r).loan = s.loan := rfl
@[simp] theorem State.setVolume_meter (s : State) (n : Volume) (r : VolumeEntry) : (s.setVolume n r).meter = s.meter := rfl
@[simp] theorem State.setVolume_stages (s : State) (n : Volume) (r : VolumeEntry) : (s.setVolume n r).stages = s.stages := rfl
@[simp] theorem State.setVolume_dispatch (s : State) (n : Volume) (r : VolumeEntry) : (s.setVolume n r).dispatch = s.dispatch := rfl
@[simp] theorem State.setVolume_lock (s : State) (n : Volume) (r : VolumeEntry) : (s.setVolume n r).lock = s.lock := rfl
@[simp] theorem State.setVolume_management (s : State) (n : Volume) (r : VolumeEntry) : (s.setVolume n r).management = s.management := rfl
@[simp] theorem State.setVolume_pending (s : State) (n : Volume) (r : VolumeEntry) : (s.setVolume n r).pending = s.pending := rfl
@[simp] theorem State.setVolume_draws (s : State) (n : Volume) (r : VolumeEntry) : (s.setVolume n r).draws = s.draws := rfl
@[simp] theorem State.setVolume_lending_map (s : State) (n : Volume) (r : VolumeEntry) : (s.setVolume n r).lending.map = s.lending.map := rfl
@[simp] theorem State.setVolume_node (s : State) (n : Volume) (r : VolumeEntry) (m : NodePort) : (s.setVolume n r).node m = s.node m := rfl
@[simp] theorem State.setVolume_diskLink (s : State) (n : Volume) (r : VolumeEntry) (m : DiskPort) : (s.setVolume n r).diskLink m = s.diskLink m := rfl
@[simp] theorem State.setVolume_desk (s : State) (n : Volume) (r : VolumeEntry) (m : NodePort) : (s.setVolume n r).desk m = s.desk m := rfl
@[simp] theorem State.setVolume_mapEntry (s : State) (n : Volume) (r : VolumeEntry) (m : MapIdx) : (s.setVolume n r).mapEntry m = s.mapEntry m := rfl
@[simp] theorem State.setVolume_loanAt (s : State) (n : Volume) (r : VolumeEntry) (m : LoanIdx) : (s.setVolume n r).loanAt m = s.loanAt m := rfl
@[simp] theorem State.setVolume_meterOf (s : State) (n : Volume) (r : VolumeEntry) (m : NodePort) : (s.setVolume n r).meterOf m = s.meterOf m := rfl
@[simp] theorem State.setVolume_tallyOf (s : State) (n : Volume) (r : VolumeEntry) (m : NodePort) : (s.setVolume n r).tallyOf m = s.tallyOf m := rfl
@[simp] theorem State.setVolume_stage (s : State) (n : Volume) (r : VolumeEntry) (m : StageIdx) : (s.setVolume n r).stage m = s.stage m := rfl
@[simp] theorem State.setVolume_disk (s : State) (n : Volume) (r : VolumeEntry) (m : DiskPort) : (s.setVolume n r).disk m = s.disk m := rfl
@[simp] theorem State.setVolume_lockAt (s : State) (n : Volume) (r : VolumeEntry) (m : LockIdx) : (s.setVolume n r).lockAt m = s.lockAt m := rfl
@[simp] theorem State.setVolume_retryCount (s : State) (n : Volume) (r : VolumeEntry) (m : NodePort) : (s.setVolume n r).retryCount m = s.retryCount m := rfl
@[simp] theorem State.setVolume_slot (s : State) (n : Volume) (r : VolumeEntry) (m : NodePort) (k : SlotIdx) : (s.setVolume n r).slot m k = s.slot m k := rfl
@[simp] theorem State.setVolume_settings (s : State) (n : Volume) (r : VolumeEntry) : (s.setVolume n r).settings = s.settings := rfl
@[simp] theorem State.setVolume_volume (s : State) (n : Volume) (r : VolumeEntry) : (s.setVolume n r).volume n = r := by simp [State.volume, State.setVolume]
theorem State.setVolume_volume_ne (s : State) (n : Volume) (r : VolumeEntry) (m : Volume) (h : m ≠ n) : (s.setVolume n r).volume m = s.volume m := by
  have : n.val ≠ m.val := fun e => h (Fin.ext e.symm)
  simp [State.volume, State.setVolume, this]
theorem State.setVolume_volume_eq (s : State) (n : Volume) (r : VolumeEntry) (m : Volume) : (s.setVolume n r).volume m = if m = n then r else s.volume m := by
  by_cases h : m = n
  · subst h; simp
  · simp [h, State.setVolume_volume_ne s n r m h]

/-! ### setMapEntry -/

@[simp] theorem State.setMapEntry_link (s : State) (n : MapIdx) (r : MapEntry) : (s.setMapEntry n r).link = s.link := rfl
@[simp] theorem State.setMapEntry_admission (s : State) (n : MapIdx) (r : MapEntry) : (s.setMapEntry n r).admission = s.admission := rfl
@[simp] theorem State.setMapEntry_loan (s : State) (n : MapIdx) (r : MapEntry) : (s.setMapEntry n r).loan = s.loan := rfl
@[simp] theorem State.setMapEntry_meter (s : State) (n : MapIdx) (r : MapEntry) : (s.setMapEntry n r).meter = s.meter := rfl
@[simp] theorem State.setMapEntry_stages (s : State) (n : MapIdx) (r : MapEntry) : (s.setMapEntry n r).stages = s.stages := rfl
@[simp] theorem State.setMapEntry_dispatch (s : State) (n : MapIdx) (r : MapEntry) : (s.setMapEntry n r).dispatch = s.dispatch := rfl
@[simp] theorem State.setMapEntry_lock (s : State) (n : MapIdx) (r : MapEntry) : (s.setMapEntry n r).lock = s.lock := rfl
@[simp] theorem State.setMapEntry_management (s : State) (n : MapIdx) (r : MapEntry) : (s.setMapEntry n r).management = s.management := rfl
@[simp] theorem State.setMapEntry_pending (s : State) (n : MapIdx) (r : MapEntry) : (s.setMapEntry n r).pending = s.pending := rfl
@[simp] theorem State.setMapEntry_draws (s : State) (n : MapIdx) (r : MapEntry) : (s.setMapEntry n r).draws = s.draws := rfl
@[simp] theorem State.setMapEntry_lending_volumes (s : State) (n : MapIdx) (r : MapEntry) : (s.setMapEntry n r).lending.volumes = s.lending.volumes := rfl
@[simp] theorem State.setMapEntry_node (s : State) (n : MapIdx) (r : MapEntry) (m : NodePort) : (s.setMapEntry n r).node m = s.node m := rfl
@[simp] theorem State.setMapEntry_diskLink (s : State) (n : MapIdx) (r : MapEntry) (m : DiskPort) : (s.setMapEntry n r).diskLink m = s.diskLink m := rfl
@[simp] theorem State.setMapEntry_desk (s : State) (n : MapIdx) (r : MapEntry) (m : NodePort) : (s.setMapEntry n r).desk m = s.desk m := rfl
@[simp] theorem State.setMapEntry_volume (s : State) (n : MapIdx) (r : MapEntry) (m : Volume) : (s.setMapEntry n r).volume m = s.volume m := rfl
@[simp] theorem State.setMapEntry_loanAt (s : State) (n : MapIdx) (r : MapEntry) (m : LoanIdx) : (s.setMapEntry n r).loanAt m = s.loanAt m := rfl
@[simp] theorem State.setMapEntry_meterOf (s : State) (n : MapIdx) (r : MapEntry) (m : NodePort) : (s.setMapEntry n r).meterOf m = s.meterOf m := rfl
@[simp] theorem State.setMapEntry_tallyOf (s : State) (n : MapIdx) (r : MapEntry) (m : NodePort) : (s.setMapEntry n r).tallyOf m = s.tallyOf m := rfl
@[simp] theorem State.setMapEntry_stage (s : State) (n : MapIdx) (r : MapEntry) (m : StageIdx) : (s.setMapEntry n r).stage m = s.stage m := rfl
@[simp] theorem State.setMapEntry_disk (s : State) (n : MapIdx) (r : MapEntry) (m : DiskPort) : (s.setMapEntry n r).disk m = s.disk m := rfl
@[simp] theorem State.setMapEntry_lockAt (s : State) (n : MapIdx) (r : MapEntry) (m : LockIdx) : (s.setMapEntry n r).lockAt m = s.lockAt m := rfl
@[simp] theorem State.setMapEntry_retryCount (s : State) (n : MapIdx) (r : MapEntry) (m : NodePort) : (s.setMapEntry n r).retryCount m = s.retryCount m := rfl
@[simp] theorem State.setMapEntry_slot (s : State) (n : MapIdx) (r : MapEntry) (m : NodePort) (k : SlotIdx) : (s.setMapEntry n r).slot m k = s.slot m k := rfl
@[simp] theorem State.setMapEntry_settings (s : State) (n : MapIdx) (r : MapEntry) : (s.setMapEntry n r).settings = s.settings := rfl
@[simp] theorem State.setMapEntry_mapEntry (s : State) (n : MapIdx) (r : MapEntry) : (s.setMapEntry n r).mapEntry n = r := by simp [State.mapEntry, State.setMapEntry]
theorem State.setMapEntry_mapEntry_ne (s : State) (n : MapIdx) (r : MapEntry) (m : MapIdx) (h : m ≠ n) : (s.setMapEntry n r).mapEntry m = s.mapEntry m := by
  have : n.val ≠ m.val := fun e => h (Fin.ext e.symm)
  simp [State.mapEntry, State.setMapEntry, this]
theorem State.setMapEntry_mapEntry_eq (s : State) (n : MapIdx) (r : MapEntry) (m : MapIdx) : (s.setMapEntry n r).mapEntry m = if m = n then r else s.mapEntry m := by
  by_cases h : m = n
  · subst h; simp
  · simp [h, State.setMapEntry_mapEntry_ne s n r m h]

/-! ### setLoan -/

@[simp] theorem State.setLoan_link (s : State) (n : LoanIdx) (r : Loan) : (s.setLoan n r).link = s.link := rfl
@[simp] theorem State.setLoan_admission (s : State) (n : LoanIdx) (r : Loan) : (s.setLoan n r).admission = s.admission := rfl
@[simp] theorem State.setLoan_lending (s : State) (n : LoanIdx) (r : Loan) : (s.setLoan n r).lending = s.lending := rfl
@[simp] theorem State.setLoan_meter (s : State) (n : LoanIdx) (r : Loan) : (s.setLoan n r).meter = s.meter := rfl
@[simp] theorem State.setLoan_stages (s : State) (n : LoanIdx) (r : Loan) : (s.setLoan n r).stages = s.stages := rfl
@[simp] theorem State.setLoan_dispatch (s : State) (n : LoanIdx) (r : Loan) : (s.setLoan n r).dispatch = s.dispatch := rfl
@[simp] theorem State.setLoan_lock (s : State) (n : LoanIdx) (r : Loan) : (s.setLoan n r).lock = s.lock := rfl
@[simp] theorem State.setLoan_management (s : State) (n : LoanIdx) (r : Loan) : (s.setLoan n r).management = s.management := rfl
@[simp] theorem State.setLoan_pending (s : State) (n : LoanIdx) (r : Loan) : (s.setLoan n r).pending = s.pending := rfl
@[simp] theorem State.setLoan_draws (s : State) (n : LoanIdx) (r : Loan) : (s.setLoan n r).draws = s.draws := rfl
@[simp] theorem State.setLoan_loan_clock (s : State) (n : LoanIdx) (r : Loan) : (s.setLoan n r).loan.clock = s.loan.clock := rfl
@[simp] theorem State.setLoan_node (s : State) (n : LoanIdx) (r : Loan) (m : NodePort) : (s.setLoan n r).node m = s.node m := rfl
@[simp] theorem State.setLoan_diskLink (s : State) (n : LoanIdx) (r : Loan) (m : DiskPort) : (s.setLoan n r).diskLink m = s.diskLink m := rfl
@[simp] theorem State.setLoan_desk (s : State) (n : LoanIdx) (r : Loan) (m : NodePort) : (s.setLoan n r).desk m = s.desk m := rfl
@[simp] theorem State.setLoan_volume (s : State) (n : LoanIdx) (r : Loan) (m : Volume) : (s.setLoan n r).volume m = s.volume m := rfl
@[simp] theorem State.setLoan_mapEntry (s : State) (n : LoanIdx) (r : Loan) (m : MapIdx) : (s.setLoan n r).mapEntry m = s.mapEntry m := rfl
@[simp] theorem State.setLoan_meterOf (s : State) (n : LoanIdx) (r : Loan) (m : NodePort) : (s.setLoan n r).meterOf m = s.meterOf m := rfl
@[simp] theorem State.setLoan_tallyOf (s : State) (n : LoanIdx) (r : Loan) (m : NodePort) : (s.setLoan n r).tallyOf m = s.tallyOf m := rfl
@[simp] theorem State.setLoan_stage (s : State) (n : LoanIdx) (r : Loan) (m : StageIdx) : (s.setLoan n r).stage m = s.stage m := rfl
@[simp] theorem State.setLoan_disk (s : State) (n : LoanIdx) (r : Loan) (m : DiskPort) : (s.setLoan n r).disk m = s.disk m := rfl
@[simp] theorem State.setLoan_lockAt (s : State) (n : LoanIdx) (r : Loan) (m : LockIdx) : (s.setLoan n r).lockAt m = s.lockAt m := rfl
@[simp] theorem State.setLoan_retryCount (s : State) (n : LoanIdx) (r : Loan) (m : NodePort) : (s.setLoan n r).retryCount m = s.retryCount m := rfl
@[simp] theorem State.setLoan_slot (s : State) (n : LoanIdx) (r : Loan) (m : NodePort) (k : SlotIdx) : (s.setLoan n r).slot m k = s.slot m k := rfl
@[simp] theorem State.setLoan_settings (s : State) (n : LoanIdx) (r : Loan) : (s.setLoan n r).settings = s.settings := rfl
@[simp] theorem State.setLoan_loanAt (s : State) (n : LoanIdx) (r : Loan) : (s.setLoan n r).loanAt n = r := by simp [State.loanAt, State.setLoan]
theorem State.setLoan_loanAt_ne (s : State) (n : LoanIdx) (r : Loan) (m : LoanIdx) (h : m ≠ n) : (s.setLoan n r).loanAt m = s.loanAt m := by
  have : n.val ≠ m.val := fun e => h (Fin.ext e.symm)
  simp [State.loanAt, State.setLoan, this]
theorem State.setLoan_loanAt_eq (s : State) (n : LoanIdx) (r : Loan) (m : LoanIdx) : (s.setLoan n r).loanAt m = if m = n then r else s.loanAt m := by
  by_cases h : m = n
  · subst h; simp
  · simp [h, State.setLoan_loanAt_ne s n r m h]

/-! ### setMeter -/

@[simp] theorem State.setMeter_link (s : State) (n : NodePort) (r : Meter) : (s.setMeter n r).link = s.link := rfl
@[simp] theorem State.setMeter_admission (s : State) (n : NodePort) (r : Meter) : (s.setMeter n r).admission = s.admission := rfl
@[simp] theorem State.setMeter_lending (s : State) (n : NodePort) (r : Meter) : (s.setMeter n r).lending = s.lending := rfl
@[simp] theorem State.setMeter_loan (s : State) (n : NodePort) (r : Meter) : (s.setMeter n r).loan = s.loan := rfl
@[simp] theorem State.setMeter_stages (s : State) (n : NodePort) (r : Meter) : (s.setMeter n r).stages = s.stages := rfl
@[simp] theorem State.setMeter_dispatch (s : State) (n : NodePort) (r : Meter) : (s.setMeter n r).dispatch = s.dispatch := rfl
@[simp] theorem State.setMeter_lock (s : State) (n : NodePort) (r : Meter) : (s.setMeter n r).lock = s.lock := rfl
@[simp] theorem State.setMeter_management (s : State) (n : NodePort) (r : Meter) : (s.setMeter n r).management = s.management := rfl
@[simp] theorem State.setMeter_pending (s : State) (n : NodePort) (r : Meter) : (s.setMeter n r).pending = s.pending := rfl
@[simp] theorem State.setMeter_draws (s : State) (n : NodePort) (r : Meter) : (s.setMeter n r).draws = s.draws := rfl
@[simp] theorem State.setMeter_meter_tallies (s : State) (n : NodePort) (r : Meter) : (s.setMeter n r).meter.tallies = s.meter.tallies := rfl
@[simp] theorem State.setMeter_meter_periodCount (s : State) (n : NodePort) (r : Meter) : (s.setMeter n r).meter.periodCount = s.meter.periodCount := rfl
@[simp] theorem State.setMeter_meter_periodOwed (s : State) (n : NodePort) (r : Meter) : (s.setMeter n r).meter.periodOwed = s.meter.periodOwed := rfl
@[simp] theorem State.setMeter_meter_periodRead (s : State) (n : NodePort) (r : Meter) : (s.setMeter n r).meter.periodRead = s.meter.periodRead := rfl
@[simp] theorem State.setMeter_meter_clock (s : State) (n : NodePort) (r : Meter) : (s.setMeter n r).meter.clock = s.meter.clock := rfl
@[simp] theorem State.setMeter_node (s : State) (n : NodePort) (r : Meter) (m : NodePort) : (s.setMeter n r).node m = s.node m := rfl
@[simp] theorem State.setMeter_diskLink (s : State) (n : NodePort) (r : Meter) (m : DiskPort) : (s.setMeter n r).diskLink m = s.diskLink m := rfl
@[simp] theorem State.setMeter_desk (s : State) (n : NodePort) (r : Meter) (m : NodePort) : (s.setMeter n r).desk m = s.desk m := rfl
@[simp] theorem State.setMeter_volume (s : State) (n : NodePort) (r : Meter) (m : Volume) : (s.setMeter n r).volume m = s.volume m := rfl
@[simp] theorem State.setMeter_mapEntry (s : State) (n : NodePort) (r : Meter) (m : MapIdx) : (s.setMeter n r).mapEntry m = s.mapEntry m := rfl
@[simp] theorem State.setMeter_loanAt (s : State) (n : NodePort) (r : Meter) (m : LoanIdx) : (s.setMeter n r).loanAt m = s.loanAt m := rfl
@[simp] theorem State.setMeter_tallyOf (s : State) (n : NodePort) (r : Meter) (m : NodePort) : (s.setMeter n r).tallyOf m = s.tallyOf m := rfl
@[simp] theorem State.setMeter_stage (s : State) (n : NodePort) (r : Meter) (m : StageIdx) : (s.setMeter n r).stage m = s.stage m := rfl
@[simp] theorem State.setMeter_disk (s : State) (n : NodePort) (r : Meter) (m : DiskPort) : (s.setMeter n r).disk m = s.disk m := rfl
@[simp] theorem State.setMeter_lockAt (s : State) (n : NodePort) (r : Meter) (m : LockIdx) : (s.setMeter n r).lockAt m = s.lockAt m := rfl
@[simp] theorem State.setMeter_retryCount (s : State) (n : NodePort) (r : Meter) (m : NodePort) : (s.setMeter n r).retryCount m = s.retryCount m := rfl
@[simp] theorem State.setMeter_slot (s : State) (n : NodePort) (r : Meter) (m : NodePort) (k : SlotIdx) : (s.setMeter n r).slot m k = s.slot m k := rfl
@[simp] theorem State.setMeter_settings (s : State) (n : NodePort) (r : Meter) : (s.setMeter n r).settings = s.settings := rfl
@[simp] theorem State.setMeter_meterOf (s : State) (n : NodePort) (r : Meter) : (s.setMeter n r).meterOf n = r := by simp [State.meterOf, State.setMeter]
theorem State.setMeter_meterOf_ne (s : State) (n : NodePort) (r : Meter) (m : NodePort) (h : m ≠ n) : (s.setMeter n r).meterOf m = s.meterOf m := by
  have : n.val ≠ m.val := fun e => h (Fin.ext e.symm)
  simp [State.meterOf, State.setMeter, this]
theorem State.setMeter_meterOf_eq (s : State) (n : NodePort) (r : Meter) (m : NodePort) : (s.setMeter n r).meterOf m = if m = n then r else s.meterOf m := by
  by_cases h : m = n
  · subst h; simp
  · simp [h, State.setMeter_meterOf_ne s n r m h]

/-! ### setTally -/

@[simp] theorem State.setTally_link (s : State) (n : NodePort) (r : Tally) : (s.setTally n r).link = s.link := rfl
@[simp] theorem State.setTally_admission (s : State) (n : NodePort) (r : Tally) : (s.setTally n r).admission = s.admission := rfl
@[simp] theorem State.setTally_lending (s : State) (n : NodePort) (r : Tally) : (s.setTally n r).lending = s.lending := rfl
@[simp] theorem State.setTally_loan (s : State) (n : NodePort) (r : Tally) : (s.setTally n r).loan = s.loan := rfl
@[simp] theorem State.setTally_stages (s : State) (n : NodePort) (r : Tally) : (s.setTally n r).stages = s.stages := rfl
@[simp] theorem State.setTally_dispatch (s : State) (n : NodePort) (r : Tally) : (s.setTally n r).dispatch = s.dispatch := rfl
@[simp] theorem State.setTally_lock (s : State) (n : NodePort) (r : Tally) : (s.setTally n r).lock = s.lock := rfl
@[simp] theorem State.setTally_management (s : State) (n : NodePort) (r : Tally) : (s.setTally n r).management = s.management := rfl
@[simp] theorem State.setTally_pending (s : State) (n : NodePort) (r : Tally) : (s.setTally n r).pending = s.pending := rfl
@[simp] theorem State.setTally_draws (s : State) (n : NodePort) (r : Tally) : (s.setTally n r).draws = s.draws := rfl
@[simp] theorem State.setTally_meter_meters (s : State) (n : NodePort) (r : Tally) : (s.setTally n r).meter.meters = s.meter.meters := rfl
@[simp] theorem State.setTally_meter_periodCount (s : State) (n : NodePort) (r : Tally) : (s.setTally n r).meter.periodCount = s.meter.periodCount := rfl
@[simp] theorem State.setTally_meter_periodOwed (s : State) (n : NodePort) (r : Tally) : (s.setTally n r).meter.periodOwed = s.meter.periodOwed := rfl
@[simp] theorem State.setTally_meter_periodRead (s : State) (n : NodePort) (r : Tally) : (s.setTally n r).meter.periodRead = s.meter.periodRead := rfl
@[simp] theorem State.setTally_meter_clock (s : State) (n : NodePort) (r : Tally) : (s.setTally n r).meter.clock = s.meter.clock := rfl
@[simp] theorem State.setTally_node (s : State) (n : NodePort) (r : Tally) (m : NodePort) : (s.setTally n r).node m = s.node m := rfl
@[simp] theorem State.setTally_diskLink (s : State) (n : NodePort) (r : Tally) (m : DiskPort) : (s.setTally n r).diskLink m = s.diskLink m := rfl
@[simp] theorem State.setTally_desk (s : State) (n : NodePort) (r : Tally) (m : NodePort) : (s.setTally n r).desk m = s.desk m := rfl
@[simp] theorem State.setTally_volume (s : State) (n : NodePort) (r : Tally) (m : Volume) : (s.setTally n r).volume m = s.volume m := rfl
@[simp] theorem State.setTally_mapEntry (s : State) (n : NodePort) (r : Tally) (m : MapIdx) : (s.setTally n r).mapEntry m = s.mapEntry m := rfl
@[simp] theorem State.setTally_loanAt (s : State) (n : NodePort) (r : Tally) (m : LoanIdx) : (s.setTally n r).loanAt m = s.loanAt m := rfl
@[simp] theorem State.setTally_meterOf (s : State) (n : NodePort) (r : Tally) (m : NodePort) : (s.setTally n r).meterOf m = s.meterOf m := rfl
@[simp] theorem State.setTally_stage (s : State) (n : NodePort) (r : Tally) (m : StageIdx) : (s.setTally n r).stage m = s.stage m := rfl
@[simp] theorem State.setTally_disk (s : State) (n : NodePort) (r : Tally) (m : DiskPort) : (s.setTally n r).disk m = s.disk m := rfl
@[simp] theorem State.setTally_lockAt (s : State) (n : NodePort) (r : Tally) (m : LockIdx) : (s.setTally n r).lockAt m = s.lockAt m := rfl
@[simp] theorem State.setTally_retryCount (s : State) (n : NodePort) (r : Tally) (m : NodePort) : (s.setTally n r).retryCount m = s.retryCount m := rfl
@[simp] theorem State.setTally_slot (s : State) (n : NodePort) (r : Tally) (m : NodePort) (k : SlotIdx) : (s.setTally n r).slot m k = s.slot m k := rfl
@[simp] theorem State.setTally_settings (s : State) (n : NodePort) (r : Tally) : (s.setTally n r).settings = s.settings := rfl
@[simp] theorem State.setTally_tallyOf (s : State) (n : NodePort) (r : Tally) : (s.setTally n r).tallyOf n = r := by simp [State.tallyOf, State.setTally]
theorem State.setTally_tallyOf_ne (s : State) (n : NodePort) (r : Tally) (m : NodePort) (h : m ≠ n) : (s.setTally n r).tallyOf m = s.tallyOf m := by
  have : n.val ≠ m.val := fun e => h (Fin.ext e.symm)
  simp [State.tallyOf, State.setTally, this]
theorem State.setTally_tallyOf_eq (s : State) (n : NodePort) (r : Tally) (m : NodePort) : (s.setTally n r).tallyOf m = if m = n then r else s.tallyOf m := by
  by_cases h : m = n
  · subst h; simp
  · simp [h, State.setTally_tallyOf_ne s n r m h]

/-! ### setStage -/

@[simp] theorem State.setStage_link (s : State) (n : StageIdx) (r : Stage) : (s.setStage n r).link = s.link := rfl
@[simp] theorem State.setStage_admission (s : State) (n : StageIdx) (r : Stage) : (s.setStage n r).admission = s.admission := rfl
@[simp] theorem State.setStage_lending (s : State) (n : StageIdx) (r : Stage) : (s.setStage n r).lending = s.lending := rfl
@[simp] theorem State.setStage_loan (s : State) (n : StageIdx) (r : Stage) : (s.setStage n r).loan = s.loan := rfl
@[simp] theorem State.setStage_meter (s : State) (n : StageIdx) (r : Stage) : (s.setStage n r).meter = s.meter := rfl
@[simp] theorem State.setStage_dispatch (s : State) (n : StageIdx) (r : Stage) : (s.setStage n r).dispatch = s.dispatch := rfl
@[simp] theorem State.setStage_lock (s : State) (n : StageIdx) (r : Stage) : (s.setStage n r).lock = s.lock := rfl
@[simp] theorem State.setStage_management (s : State) (n : StageIdx) (r : Stage) : (s.setStage n r).management = s.management := rfl
@[simp] theorem State.setStage_pending (s : State) (n : StageIdx) (r : Stage) : (s.setStage n r).pending = s.pending := rfl
@[simp] theorem State.setStage_draws (s : State) (n : StageIdx) (r : Stage) : (s.setStage n r).draws = s.draws := rfl
@[simp] theorem State.setStage_stages_order (s : State) (n : StageIdx) (r : Stage) : (s.setStage n r).stages.order = s.stages.order := rfl
@[simp] theorem State.setStage_stages_lastServed (s : State) (n : StageIdx) (r : Stage) : (s.setStage n r).stages.lastServed = s.stages.lastServed := rfl
@[simp] theorem State.setStage_stages_passesDue (s : State) (n : StageIdx) (r : Stage) : (s.setStage n r).stages.passesDue = s.stages.passesDue := rfl
@[simp] theorem State.setStage_node (s : State) (n : StageIdx) (r : Stage) (m : NodePort) : (s.setStage n r).node m = s.node m := rfl
@[simp] theorem State.setStage_diskLink (s : State) (n : StageIdx) (r : Stage) (m : DiskPort) : (s.setStage n r).diskLink m = s.diskLink m := rfl
@[simp] theorem State.setStage_desk (s : State) (n : StageIdx) (r : Stage) (m : NodePort) : (s.setStage n r).desk m = s.desk m := rfl
@[simp] theorem State.setStage_volume (s : State) (n : StageIdx) (r : Stage) (m : Volume) : (s.setStage n r).volume m = s.volume m := rfl
@[simp] theorem State.setStage_mapEntry (s : State) (n : StageIdx) (r : Stage) (m : MapIdx) : (s.setStage n r).mapEntry m = s.mapEntry m := rfl
@[simp] theorem State.setStage_loanAt (s : State) (n : StageIdx) (r : Stage) (m : LoanIdx) : (s.setStage n r).loanAt m = s.loanAt m := rfl
@[simp] theorem State.setStage_meterOf (s : State) (n : StageIdx) (r : Stage) (m : NodePort) : (s.setStage n r).meterOf m = s.meterOf m := rfl
@[simp] theorem State.setStage_tallyOf (s : State) (n : StageIdx) (r : Stage) (m : NodePort) : (s.setStage n r).tallyOf m = s.tallyOf m := rfl
@[simp] theorem State.setStage_disk (s : State) (n : StageIdx) (r : Stage) (m : DiskPort) : (s.setStage n r).disk m = s.disk m := rfl
@[simp] theorem State.setStage_lockAt (s : State) (n : StageIdx) (r : Stage) (m : LockIdx) : (s.setStage n r).lockAt m = s.lockAt m := rfl
@[simp] theorem State.setStage_retryCount (s : State) (n : StageIdx) (r : Stage) (m : NodePort) : (s.setStage n r).retryCount m = s.retryCount m := rfl
@[simp] theorem State.setStage_slot (s : State) (n : StageIdx) (r : Stage) (m : NodePort) (k : SlotIdx) : (s.setStage n r).slot m k = s.slot m k := rfl
@[simp] theorem State.setStage_settings (s : State) (n : StageIdx) (r : Stage) : (s.setStage n r).settings = s.settings := rfl
@[simp] theorem State.setStage_stage (s : State) (n : StageIdx) (r : Stage) : (s.setStage n r).stage n = r := by simp [State.stage, State.setStage]
theorem State.setStage_stage_ne (s : State) (n : StageIdx) (r : Stage) (m : StageIdx) (h : m ≠ n) : (s.setStage n r).stage m = s.stage m := by
  have : n.val ≠ m.val := fun e => h (Fin.ext e.symm)
  simp [State.stage, State.setStage, this]
theorem State.setStage_stage_eq (s : State) (n : StageIdx) (r : Stage) (m : StageIdx) : (s.setStage n r).stage m = if m = n then r else s.stage m := by
  by_cases h : m = n
  · subst h; simp
  · simp [h, State.setStage_stage_ne s n r m h]

/-! ### setDisk -/

@[simp] theorem State.setDisk_link (s : State) (n : DiskPort) (r : DiskRecord) : (s.setDisk n r).link = s.link := rfl
@[simp] theorem State.setDisk_admission (s : State) (n : DiskPort) (r : DiskRecord) : (s.setDisk n r).admission = s.admission := rfl
@[simp] theorem State.setDisk_lending (s : State) (n : DiskPort) (r : DiskRecord) : (s.setDisk n r).lending = s.lending := rfl
@[simp] theorem State.setDisk_loan (s : State) (n : DiskPort) (r : DiskRecord) : (s.setDisk n r).loan = s.loan := rfl
@[simp] theorem State.setDisk_meter (s : State) (n : DiskPort) (r : DiskRecord) : (s.setDisk n r).meter = s.meter := rfl
@[simp] theorem State.setDisk_stages (s : State) (n : DiskPort) (r : DiskRecord) : (s.setDisk n r).stages = s.stages := rfl
@[simp] theorem State.setDisk_lock (s : State) (n : DiskPort) (r : DiskRecord) : (s.setDisk n r).lock = s.lock := rfl
@[simp] theorem State.setDisk_management (s : State) (n : DiskPort) (r : DiskRecord) : (s.setDisk n r).management = s.management := rfl
@[simp] theorem State.setDisk_pending (s : State) (n : DiskPort) (r : DiskRecord) : (s.setDisk n r).pending = s.pending := rfl
@[simp] theorem State.setDisk_draws (s : State) (n : DiskPort) (r : DiskRecord) : (s.setDisk n r).draws = s.draws := rfl
@[simp] theorem State.setDisk_dispatch_clock (s : State) (n : DiskPort) (r : DiskRecord) : (s.setDisk n r).dispatch.clock = s.dispatch.clock := rfl
@[simp] theorem State.setDisk_dispatch_timeoutsRead (s : State) (n : DiskPort) (r : DiskRecord) : (s.setDisk n r).dispatch.timeoutsRead = s.dispatch.timeoutsRead := rfl
@[simp] theorem State.setDisk_node (s : State) (n : DiskPort) (r : DiskRecord) (m : NodePort) : (s.setDisk n r).node m = s.node m := rfl
@[simp] theorem State.setDisk_diskLink (s : State) (n : DiskPort) (r : DiskRecord) (m : DiskPort) : (s.setDisk n r).diskLink m = s.diskLink m := rfl
@[simp] theorem State.setDisk_desk (s : State) (n : DiskPort) (r : DiskRecord) (m : NodePort) : (s.setDisk n r).desk m = s.desk m := rfl
@[simp] theorem State.setDisk_volume (s : State) (n : DiskPort) (r : DiskRecord) (m : Volume) : (s.setDisk n r).volume m = s.volume m := rfl
@[simp] theorem State.setDisk_mapEntry (s : State) (n : DiskPort) (r : DiskRecord) (m : MapIdx) : (s.setDisk n r).mapEntry m = s.mapEntry m := rfl
@[simp] theorem State.setDisk_loanAt (s : State) (n : DiskPort) (r : DiskRecord) (m : LoanIdx) : (s.setDisk n r).loanAt m = s.loanAt m := rfl
@[simp] theorem State.setDisk_meterOf (s : State) (n : DiskPort) (r : DiskRecord) (m : NodePort) : (s.setDisk n r).meterOf m = s.meterOf m := rfl
@[simp] theorem State.setDisk_tallyOf (s : State) (n : DiskPort) (r : DiskRecord) (m : NodePort) : (s.setDisk n r).tallyOf m = s.tallyOf m := rfl
@[simp] theorem State.setDisk_stage (s : State) (n : DiskPort) (r : DiskRecord) (m : StageIdx) : (s.setDisk n r).stage m = s.stage m := rfl
@[simp] theorem State.setDisk_lockAt (s : State) (n : DiskPort) (r : DiskRecord) (m : LockIdx) : (s.setDisk n r).lockAt m = s.lockAt m := rfl
@[simp] theorem State.setDisk_retryCount (s : State) (n : DiskPort) (r : DiskRecord) (m : NodePort) : (s.setDisk n r).retryCount m = s.retryCount m := rfl
@[simp] theorem State.setDisk_slot (s : State) (n : DiskPort) (r : DiskRecord) (m : NodePort) (k : SlotIdx) : (s.setDisk n r).slot m k = s.slot m k := rfl
@[simp] theorem State.setDisk_settings (s : State) (n : DiskPort) (r : DiskRecord) : (s.setDisk n r).settings = s.settings := rfl
@[simp] theorem State.setDisk_disk (s : State) (n : DiskPort) (r : DiskRecord) : (s.setDisk n r).disk n = r := by simp [State.disk, State.setDisk]
theorem State.setDisk_disk_ne (s : State) (n : DiskPort) (r : DiskRecord) (m : DiskPort) (h : m ≠ n) : (s.setDisk n r).disk m = s.disk m := by
  have : n.val ≠ m.val := fun e => h (Fin.ext e.symm)
  simp [State.disk, State.setDisk, this]
theorem State.setDisk_disk_eq (s : State) (n : DiskPort) (r : DiskRecord) (m : DiskPort) : (s.setDisk n r).disk m = if m = n then r else s.disk m := by
  by_cases h : m = n
  · subst h; simp
  · simp [h, State.setDisk_disk_ne s n r m h]

/-! ### setLock -/

@[simp] theorem State.setLock_link (s : State) (n : LockIdx) (r : Lock) : (s.setLock n r).link = s.link := rfl
@[simp] theorem State.setLock_admission (s : State) (n : LockIdx) (r : Lock) : (s.setLock n r).admission = s.admission := rfl
@[simp] theorem State.setLock_lending (s : State) (n : LockIdx) (r : Lock) : (s.setLock n r).lending = s.lending := rfl
@[simp] theorem State.setLock_loan (s : State) (n : LockIdx) (r : Lock) : (s.setLock n r).loan = s.loan := rfl
@[simp] theorem State.setLock_meter (s : State) (n : LockIdx) (r : Lock) : (s.setLock n r).meter = s.meter := rfl
@[simp] theorem State.setLock_stages (s : State) (n : LockIdx) (r : Lock) : (s.setLock n r).stages = s.stages := rfl
@[simp] theorem State.setLock_dispatch (s : State) (n : LockIdx) (r : Lock) : (s.setLock n r).dispatch = s.dispatch := rfl
@[simp] theorem State.setLock_management (s : State) (n : LockIdx) (r : Lock) : (s.setLock n r).management = s.management := rfl
@[simp] theorem State.setLock_pending (s : State) (n : LockIdx) (r : Lock) : (s.setLock n r).pending = s.pending := rfl
@[simp] theorem State.setLock_draws (s : State) (n : LockIdx) (r : Lock) : (s.setLock n r).draws = s.draws := rfl
@[simp] theorem State.setLock_lock_retry (s : State) (n : LockIdx) (r : Lock) : (s.setLock n r).lock.retry = s.lock.retry := rfl
@[simp] theorem State.setLock_lock_active (s : State) (n : LockIdx) (r : Lock) : (s.setLock n r).lock.active = s.lock.active := rfl
@[simp] theorem State.setLock_lock_pendingClaims (s : State) (n : LockIdx) (r : Lock) : (s.setLock n r).lock.pendingClaims = s.lock.pendingClaims := rfl
@[simp] theorem State.setLock_lock_timerOwed (s : State) (n : LockIdx) (r : Lock) : (s.setLock n r).lock.timerOwed = s.lock.timerOwed := rfl
@[simp] theorem State.setLock_lock_limitRead (s : State) (n : LockIdx) (r : Lock) : (s.setLock n r).lock.limitRead = s.lock.limitRead := rfl
@[simp] theorem State.setLock_node (s : State) (n : LockIdx) (r : Lock) (m : NodePort) : (s.setLock n r).node m = s.node m := rfl
@[simp] theorem State.setLock_diskLink (s : State) (n : LockIdx) (r : Lock) (m : DiskPort) : (s.setLock n r).diskLink m = s.diskLink m := rfl
@[simp] theorem State.setLock_desk (s : State) (n : LockIdx) (r : Lock) (m : NodePort) : (s.setLock n r).desk m = s.desk m := rfl
@[simp] theorem State.setLock_volume (s : State) (n : LockIdx) (r : Lock) (m : Volume) : (s.setLock n r).volume m = s.volume m := rfl
@[simp] theorem State.setLock_mapEntry (s : State) (n : LockIdx) (r : Lock) (m : MapIdx) : (s.setLock n r).mapEntry m = s.mapEntry m := rfl
@[simp] theorem State.setLock_loanAt (s : State) (n : LockIdx) (r : Lock) (m : LoanIdx) : (s.setLock n r).loanAt m = s.loanAt m := rfl
@[simp] theorem State.setLock_meterOf (s : State) (n : LockIdx) (r : Lock) (m : NodePort) : (s.setLock n r).meterOf m = s.meterOf m := rfl
@[simp] theorem State.setLock_tallyOf (s : State) (n : LockIdx) (r : Lock) (m : NodePort) : (s.setLock n r).tallyOf m = s.tallyOf m := rfl
@[simp] theorem State.setLock_stage (s : State) (n : LockIdx) (r : Lock) (m : StageIdx) : (s.setLock n r).stage m = s.stage m := rfl
@[simp] theorem State.setLock_disk (s : State) (n : LockIdx) (r : Lock) (m : DiskPort) : (s.setLock n r).disk m = s.disk m := rfl
@[simp] theorem State.setLock_retryCount (s : State) (n : LockIdx) (r : Lock) (m : NodePort) : (s.setLock n r).retryCount m = s.retryCount m := rfl
@[simp] theorem State.setLock_slot (s : State) (n : LockIdx) (r : Lock) (m : NodePort) (k : SlotIdx) : (s.setLock n r).slot m k = s.slot m k := rfl
@[simp] theorem State.setLock_settings (s : State) (n : LockIdx) (r : Lock) : (s.setLock n r).settings = s.settings := rfl
@[simp] theorem State.setLock_lockAt (s : State) (n : LockIdx) (r : Lock) : (s.setLock n r).lockAt n = r := by simp [State.lockAt, State.setLock]
theorem State.setLock_lockAt_ne (s : State) (n : LockIdx) (r : Lock) (m : LockIdx) (h : m ≠ n) : (s.setLock n r).lockAt m = s.lockAt m := by
  have : n.val ≠ m.val := fun e => h (Fin.ext e.symm)
  simp [State.lockAt, State.setLock, this]
theorem State.setLock_lockAt_eq (s : State) (n : LockIdx) (r : Lock) (m : LockIdx) : (s.setLock n r).lockAt m = if m = n then r else s.lockAt m := by
  by_cases h : m = n
  · subst h; simp
  · simp [h, State.setLock_lockAt_ne s n r m h]

/-! ### setRetry -/

@[simp] theorem State.setRetry_link (s : State) (n : NodePort) (r : Nat) : (s.setRetry n r).link = s.link := rfl
@[simp] theorem State.setRetry_admission (s : State) (n : NodePort) (r : Nat) : (s.setRetry n r).admission = s.admission := rfl
@[simp] theorem State.setRetry_lending (s : State) (n : NodePort) (r : Nat) : (s.setRetry n r).lending = s.lending := rfl
@[simp] theorem State.setRetry_loan (s : State) (n : NodePort) (r : Nat) : (s.setRetry n r).loan = s.loan := rfl
@[simp] theorem State.setRetry_meter (s : State) (n : NodePort) (r : Nat) : (s.setRetry n r).meter = s.meter := rfl
@[simp] theorem State.setRetry_stages (s : State) (n : NodePort) (r : Nat) : (s.setRetry n r).stages = s.stages := rfl
@[simp] theorem State.setRetry_dispatch (s : State) (n : NodePort) (r : Nat) : (s.setRetry n r).dispatch = s.dispatch := rfl
@[simp] theorem State.setRetry_management (s : State) (n : NodePort) (r : Nat) : (s.setRetry n r).management = s.management := rfl
@[simp] theorem State.setRetry_pending (s : State) (n : NodePort) (r : Nat) : (s.setRetry n r).pending = s.pending := rfl
@[simp] theorem State.setRetry_draws (s : State) (n : NodePort) (r : Nat) : (s.setRetry n r).draws = s.draws := rfl
@[simp] theorem State.setRetry_lock_locks (s : State) (n : NodePort) (r : Nat) : (s.setRetry n r).lock.locks = s.lock.locks := rfl
@[simp] theorem State.setRetry_lock_active (s : State) (n : NodePort) (r : Nat) : (s.setRetry n r).lock.active = s.lock.active := rfl
@[simp] theorem State.setRetry_lock_pendingClaims (s : State) (n : NodePort) (r : Nat) : (s.setRetry n r).lock.pendingClaims = s.lock.pendingClaims := rfl
@[simp] theorem State.setRetry_lock_timerOwed (s : State) (n : NodePort) (r : Nat) : (s.setRetry n r).lock.timerOwed = s.lock.timerOwed := rfl
@[simp] theorem State.setRetry_lock_limitRead (s : State) (n : NodePort) (r : Nat) : (s.setRetry n r).lock.limitRead = s.lock.limitRead := rfl
@[simp] theorem State.setRetry_node (s : State) (n : NodePort) (r : Nat) (m : NodePort) : (s.setRetry n r).node m = s.node m := rfl
@[simp] theorem State.setRetry_diskLink (s : State) (n : NodePort) (r : Nat) (m : DiskPort) : (s.setRetry n r).diskLink m = s.diskLink m := rfl
@[simp] theorem State.setRetry_desk (s : State) (n : NodePort) (r : Nat) (m : NodePort) : (s.setRetry n r).desk m = s.desk m := rfl
@[simp] theorem State.setRetry_volume (s : State) (n : NodePort) (r : Nat) (m : Volume) : (s.setRetry n r).volume m = s.volume m := rfl
@[simp] theorem State.setRetry_mapEntry (s : State) (n : NodePort) (r : Nat) (m : MapIdx) : (s.setRetry n r).mapEntry m = s.mapEntry m := rfl
@[simp] theorem State.setRetry_loanAt (s : State) (n : NodePort) (r : Nat) (m : LoanIdx) : (s.setRetry n r).loanAt m = s.loanAt m := rfl
@[simp] theorem State.setRetry_meterOf (s : State) (n : NodePort) (r : Nat) (m : NodePort) : (s.setRetry n r).meterOf m = s.meterOf m := rfl
@[simp] theorem State.setRetry_tallyOf (s : State) (n : NodePort) (r : Nat) (m : NodePort) : (s.setRetry n r).tallyOf m = s.tallyOf m := rfl
@[simp] theorem State.setRetry_stage (s : State) (n : NodePort) (r : Nat) (m : StageIdx) : (s.setRetry n r).stage m = s.stage m := rfl
@[simp] theorem State.setRetry_disk (s : State) (n : NodePort) (r : Nat) (m : DiskPort) : (s.setRetry n r).disk m = s.disk m := rfl
@[simp] theorem State.setRetry_lockAt (s : State) (n : NodePort) (r : Nat) (m : LockIdx) : (s.setRetry n r).lockAt m = s.lockAt m := rfl
@[simp] theorem State.setRetry_slot (s : State) (n : NodePort) (r : Nat) (m : NodePort) (k : SlotIdx) : (s.setRetry n r).slot m k = s.slot m k := rfl
@[simp] theorem State.setRetry_settings (s : State) (n : NodePort) (r : Nat) : (s.setRetry n r).settings = s.settings := rfl
@[simp] theorem State.setRetry_retryCount (s : State) (n : NodePort) (r : Nat) : (s.setRetry n r).retryCount n = r := by simp [State.retryCount, State.setRetry]
theorem State.setRetry_retryCount_ne (s : State) (n : NodePort) (r : Nat) (m : NodePort) (h : m ≠ n) : (s.setRetry n r).retryCount m = s.retryCount m := by
  have : n.val ≠ m.val := fun e => h (Fin.ext e.symm)
  simp [State.retryCount, State.setRetry, this]
theorem State.setRetry_retryCount_eq (s : State) (n : NodePort) (r : Nat) (m : NodePort) : (s.setRetry n r).retryCount m = if m = n then r else s.retryCount m := by
  by_cases h : m = n
  · subst h; simp
  · simp [h, State.setRetry_retryCount_ne s n r m h]
/-! ### setSlot -/

@[simp] theorem State.setSlot_slot (s : State) (n : NodePort) (k : SlotIdx) (x : Slot) :
    (s.setSlot n k x).slot n k = x := by simp [State.setSlot, State.slot]

theorem State.setSlot_slot_eq (s : State) (n : NodePort) (k : SlotIdx) (x : Slot) (m : NodePort) (l : SlotIdx) :
    (s.setSlot n k x).slot m l = if m = n ∧ l = k then x else s.slot m l := by
  by_cases h : m = n
  · subst h
    by_cases hk : l = k
    · subst hk; simp
    · have : k.val ≠ l.val := fun e => hk (Fin.ext e.symm)
      simp [State.setSlot, State.slot, hk, this]
  · simp [State.setSlot, State.slot, State.setDesk_desk_ne _ _ _ _ h, h]

@[simp] theorem State.setSlot_waitList (s : State) (n : NodePort) (k : SlotIdx) (x : Slot) (m : NodePort) :
    ((s.setSlot n k x).desk m).waitList = (s.desk m).waitList := by
  by_cases h : m = n
  · subst h; simp [State.setSlot]
  · simp [State.setSlot, State.setDesk_desk_ne _ _ _ _ h]

@[simp] theorem State.setSlot_attemptsDue (s : State) (n : NodePort) (k : SlotIdx) (x : Slot) (m : NodePort) :
    ((s.setSlot n k x).desk m).attemptsDue = (s.desk m).attemptsDue := by
  by_cases h : m = n
  · subst h; simp [State.setSlot]
  · simp [State.setSlot, State.setDesk_desk_ne _ _ _ _ h]

@[simp] theorem State.setSlot_link (s : State) (n : NodePort) (k : SlotIdx) (x : Slot) : (s.setSlot n k x).link = s.link := rfl
@[simp] theorem State.setSlot_lending (s : State) (n : NodePort) (k : SlotIdx) (x : Slot) : (s.setSlot n k x).lending = s.lending := rfl
@[simp] theorem State.setSlot_loan (s : State) (n : NodePort) (k : SlotIdx) (x : Slot) : (s.setSlot n k x).loan = s.loan := rfl
@[simp] theorem State.setSlot_meter (s : State) (n : NodePort) (k : SlotIdx) (x : Slot) : (s.setSlot n k x).meter = s.meter := rfl
@[simp] theorem State.setSlot_stages (s : State) (n : NodePort) (k : SlotIdx) (x : Slot) : (s.setSlot n k x).stages = s.stages := rfl
@[simp] theorem State.setSlot_dispatch (s : State) (n : NodePort) (k : SlotIdx) (x : Slot) : (s.setSlot n k x).dispatch = s.dispatch := rfl
@[simp] theorem State.setSlot_lock (s : State) (n : NodePort) (k : SlotIdx) (x : Slot) : (s.setSlot n k x).lock = s.lock := rfl
@[simp] theorem State.setSlot_management (s : State) (n : NodePort) (k : SlotIdx) (x : Slot) : (s.setSlot n k x).management = s.management := rfl
@[simp] theorem State.setSlot_pending (s : State) (n : NodePort) (k : SlotIdx) (x : Slot) : (s.setSlot n k x).pending = s.pending := rfl
@[simp] theorem State.setSlot_draws (s : State) (n : NodePort) (k : SlotIdx) (x : Slot) : (s.setSlot n k x).draws = s.draws := rfl
@[simp] theorem State.setSlot_node (s : State) (n : NodePort) (k : SlotIdx) (x : Slot) (m : NodePort) : (s.setSlot n k x).node m = s.node m := rfl
@[simp] theorem State.setSlot_diskLink (s : State) (n : NodePort) (k : SlotIdx) (x : Slot) (m : DiskPort) : (s.setSlot n k x).diskLink m = s.diskLink m := rfl
@[simp] theorem State.setSlot_volume (s : State) (n : NodePort) (k : SlotIdx) (x : Slot) (m : Volume) : (s.setSlot n k x).volume m = s.volume m := rfl
@[simp] theorem State.setSlot_mapEntry (s : State) (n : NodePort) (k : SlotIdx) (x : Slot) (m : MapIdx) : (s.setSlot n k x).mapEntry m = s.mapEntry m := rfl
@[simp] theorem State.setSlot_loanAt (s : State) (n : NodePort) (k : SlotIdx) (x : Slot) (m : LoanIdx) : (s.setSlot n k x).loanAt m = s.loanAt m := rfl
@[simp] theorem State.setSlot_meterOf (s : State) (n : NodePort) (k : SlotIdx) (x : Slot) (m : NodePort) : (s.setSlot n k x).meterOf m = s.meterOf m := rfl
@[simp] theorem State.setSlot_tallyOf (s : State) (n : NodePort) (k : SlotIdx) (x : Slot) (m : NodePort) : (s.setSlot n k x).tallyOf m = s.tallyOf m := rfl
@[simp] theorem State.setSlot_stage (s : State) (n : NodePort) (k : SlotIdx) (x : Slot) (m : StageIdx) : (s.setSlot n k x).stage m = s.stage m := rfl
@[simp] theorem State.setSlot_disk (s : State) (n : NodePort) (k : SlotIdx) (x : Slot) (m : DiskPort) : (s.setSlot n k x).disk m = s.disk m := rfl
@[simp] theorem State.setSlot_lockAt (s : State) (n : NodePort) (k : SlotIdx) (x : Slot) (m : LockIdx) : (s.setSlot n k x).lockAt m = s.lockAt m := rfl
@[simp] theorem State.setSlot_retryCount (s : State) (n : NodePort) (k : SlotIdx) (x : Slot) (m : NodePort) : (s.setSlot n k x).retryCount m = s.retryCount m := rfl
@[simp] theorem State.setSlot_settings (s : State) (n : NodePort) (k : SlotIdx) (x : Slot) : (s.setSlot n k x).settings = s.settings := rfl

/-! ### drawn -/

@[simp] theorem State.drawn_link (s : State) : s.drawn.link = s.link := rfl
@[simp] theorem State.drawn_admission (s : State) : s.drawn.admission = s.admission := rfl
@[simp] theorem State.drawn_lending (s : State) : s.drawn.lending = s.lending := rfl
@[simp] theorem State.drawn_loan (s : State) : s.drawn.loan = s.loan := rfl
@[simp] theorem State.drawn_meter (s : State) : s.drawn.meter = s.meter := rfl
@[simp] theorem State.drawn_stages (s : State) : s.drawn.stages = s.stages := rfl
@[simp] theorem State.drawn_dispatch (s : State) : s.drawn.dispatch = s.dispatch := rfl
@[simp] theorem State.drawn_lock (s : State) : s.drawn.lock = s.lock := rfl
@[simp] theorem State.drawn_management (s : State) : s.drawn.management = s.management := rfl
@[simp] theorem State.drawn_pending (s : State) : s.drawn.pending = s.pending := rfl
@[simp] theorem State.drawn_node (s : State) (m : NodePort) : s.drawn.node m = s.node m := rfl
@[simp] theorem State.drawn_diskLink (s : State) (m : DiskPort) : s.drawn.diskLink m = s.diskLink m := rfl
@[simp] theorem State.drawn_desk (s : State) (m : NodePort) : s.drawn.desk m = s.desk m := rfl
@[simp] theorem State.drawn_volume (s : State) (m : Volume) : s.drawn.volume m = s.volume m := rfl
@[simp] theorem State.drawn_mapEntry (s : State) (m : MapIdx) : s.drawn.mapEntry m = s.mapEntry m := rfl
@[simp] theorem State.drawn_loanAt (s : State) (m : LoanIdx) : s.drawn.loanAt m = s.loanAt m := rfl
@[simp] theorem State.drawn_meterOf (s : State) (m : NodePort) : s.drawn.meterOf m = s.meterOf m := rfl
@[simp] theorem State.drawn_tallyOf (s : State) (m : NodePort) : s.drawn.tallyOf m = s.tallyOf m := rfl
@[simp] theorem State.drawn_stage (s : State) (m : StageIdx) : s.drawn.stage m = s.stage m := rfl
@[simp] theorem State.drawn_disk (s : State) (m : DiskPort) : s.drawn.disk m = s.disk m := rfl
@[simp] theorem State.drawn_lockAt (s : State) (m : LockIdx) : s.drawn.lockAt m = s.lockAt m := rfl
@[simp] theorem State.drawn_retryCount (s : State) (m : NodePort) : s.drawn.retryCount m = s.retryCount m := rfl
@[simp] theorem State.drawn_slot (s : State) (m : NodePort) (k : SlotIdx) : s.drawn.slot m k = s.slot m k := rfl

end Sys2Proof.Machine
end

