-- ==== Sys2Proof/Laws/FrameCore.lean ====
section
/-! SUPPORT. What the shared operations leave alone, block by block: producing frames, raising flags and the records of links. -/

namespace Sys2Proof.Machine

/-- A fold of steps that each keep an observation keeps it. -/
theorem foldl_keeps {σ α β : Type} (p : σ → β) (g : σ → α → σ) (h : ∀ s a, p (g s a) = p s) (l : List α) (s : σ) :
    p (l.foldl g s) = p s := by
  induction l generalizing s with
  | nil => rfl
  | cons a l ih => rw [List.foldl_cons, ih, h]

@[simp] theorem produceNode_frame (n : NodePort) (f : NodeFrame) (s : State) :
    (produceNode n f s).admission = s.admission ∧ (produceNode n f s).lending = s.lending ∧
    (produceNode n f s).loan = s.loan ∧ (produceNode n f s).meter = s.meter ∧ (produceNode n f s).stages = s.stages ∧
    (produceNode n f s).dispatch = s.dispatch ∧ (produceNode n f s).lock = s.lock ∧
    (produceNode n f s).management = s.management ∧ (produceNode n f s).pending = s.pending ∧
    (produceNode n f s).draws = s.draws := by simp [produceNode]

@[simp] theorem produceDisk_frame (d : DiskPort) (f : DiskFrame) (s : State) :
    (produceDisk d f s).admission = s.admission ∧ (produceDisk d f s).lending = s.lending ∧
    (produceDisk d f s).loan = s.loan ∧ (produceDisk d f s).meter = s.meter ∧ (produceDisk d f s).stages = s.stages ∧
    (produceDisk d f s).dispatch = s.dispatch ∧ (produceDisk d f s).lock = s.lock ∧
    (produceDisk d f s).management = s.management ∧ (produceDisk d f s).pending = s.pending ∧
    (produceDisk d f s).draws = s.draws := by simp [produceDisk]

@[simp] theorem produceDone_frame (n : NodePort) (t : Tag) (st : Status) (c : Nat) (s : State) :
    (produceDone n t st c s).admission = s.admission ∧ (produceDone n t st c s).lending = s.lending ∧
    (produceDone n t st c s).loan = s.loan ∧ (produceDone n t st c s).meter = s.meter ∧
    (produceDone n t st c s).stages = s.stages ∧ (produceDone n t st c s).dispatch = s.dispatch ∧
    (produceDone n t st c s).lock = s.lock ∧ (produceDone n t st c s).management = s.management ∧
    (produceDone n t st c s).pending = s.pending ∧ (produceDone n t st c s).draws = s.draws := by simp [produceDone]

@[simp] theorem recordDetail_frame (f : Flag) (x : Nat) (s : State) :
    (recordDetail f x s).link = s.link ∧ (recordDetail f x s).admission = s.admission ∧
    (recordDetail f x s).lending = s.lending ∧ (recordDetail f x s).loan = s.loan ∧
    (recordDetail f x s).meter = s.meter ∧ (recordDetail f x s).stages = s.stages ∧
    (recordDetail f x s).dispatch = s.dispatch ∧ (recordDetail f x s).lock = s.lock ∧
    (recordDetail f x s).pending = s.pending ∧ (recordDetail f x s).draws = s.draws := by cases f <;> simp [recordDetail]

@[simp] theorem setFlag_frame (f : Flag) (s : State) :
    (setFlag f s).link = s.link ∧ (setFlag f s).admission = s.admission ∧ (setFlag f s).lending = s.lending ∧
    (setFlag f s).loan = s.loan ∧ (setFlag f s).meter = s.meter ∧ (setFlag f s).stages = s.stages ∧
    (setFlag f s).dispatch = s.dispatch ∧ (setFlag f s).lock = s.lock ∧ (setFlag f s).pending = s.pending ∧
    (setFlag f s).draws = s.draws := by simp [setFlag]

@[simp] theorem noticeTo_frame (f : Flag) (n : NodePort) (s : State) :
    (noticeTo f n s).admission = s.admission ∧ (noticeTo f n s).lending = s.lending ∧
    (noticeTo f n s).loan = s.loan ∧ (noticeTo f n s).meter = s.meter ∧ (noticeTo f n s).stages = s.stages ∧
    (noticeTo f n s).dispatch = s.dispatch ∧ (noticeTo f n s).lock = s.lock ∧
    (noticeTo f n s).management = s.management ∧ (noticeTo f n s).pending = s.pending ∧
    (noticeTo f n s).draws = s.draws := by
  unfold noticeTo
  (repeat' split) <;> simp

@[simp] theorem noticeAll_frame (f : Flag) (s : State) :
    (noticeAll f s).admission = s.admission ∧ (noticeAll f s).lending = s.lending ∧ (noticeAll f s).loan = s.loan ∧
    (noticeAll f s).meter = s.meter ∧ (noticeAll f s).stages = s.stages ∧ (noticeAll f s).dispatch = s.dispatch ∧
    (noticeAll f s).lock = s.lock ∧ (noticeAll f s).management = s.management ∧ (noticeAll f s).pending = s.pending ∧
    (noticeAll f s).draws = s.draws := by
  unfold noticeAll
  refine ⟨?_, ?_, ?_, ?_, ?_, ?_, ?_, ?_, ?_, ?_⟩ <;> exact foldl_keeps _ _ (by simp) _ _

@[simp] theorem raiseFlag_frame (f : Flag) (x : Nat) (s : State) :
    (raiseFlag f x s).admission = s.admission ∧ (raiseFlag f x s).lending = s.lending ∧
    (raiseFlag f x s).loan = s.loan ∧ (raiseFlag f x s).meter = s.meter ∧ (raiseFlag f x s).stages = s.stages ∧
    (raiseFlag f x s).dispatch = s.dispatch ∧ (raiseFlag f x s).lock = s.lock ∧
    (raiseFlag f x s).pending = s.pending ∧ (raiseFlag f x s).draws = s.draws := by
  unfold raiseFlag
  dsimp only
  split
  · simp
  · split <;> simp

@[simp] theorem clearFlags_frame (f : FlagImage) (s : State) :
    (clearFlags f s).link = s.link ∧ (clearFlags f s).admission = s.admission ∧
    (clearFlags f s).lending = s.lending ∧ (clearFlags f s).loan = s.loan ∧ (clearFlags f s).meter = s.meter ∧
    (clearFlags f s).stages = s.stages ∧ (clearFlags f s).dispatch = s.dispatch ∧ (clearFlags f s).lock = s.lock ∧
    (clearFlags f s).pending = s.pending ∧ (clearFlags f s).draws = s.draws := by simp [clearFlags]

@[simp] theorem goodNodeFrame_frame (n : NodePort) (s : State) :
    (goodNodeFrame n s).admission = s.admission ∧ (goodNodeFrame n s).lending = s.lending ∧
    (goodNodeFrame n s).loan = s.loan ∧ (goodNodeFrame n s).meter = s.meter ∧ (goodNodeFrame n s).stages = s.stages ∧
    (goodNodeFrame n s).dispatch = s.dispatch ∧ (goodNodeFrame n s).lock = s.lock ∧
    (goodNodeFrame n s).pending = s.pending ∧ (goodNodeFrame n s).draws = s.draws := by
  unfold goodNodeFrame
  dsimp only
  split <;> simp

@[simp] theorem goodDiskFrame_frame (d : DiskPort) (s : State) :
    (goodDiskFrame d s).admission = s.admission ∧ (goodDiskFrame d s).lending = s.lending ∧
    (goodDiskFrame d s).loan = s.loan ∧ (goodDiskFrame d s).meter = s.meter ∧ (goodDiskFrame d s).stages = s.stages ∧
    (goodDiskFrame d s).dispatch = s.dispatch ∧ (goodDiskFrame d s).lock = s.lock ∧
    (goodDiskFrame d s).management = s.management ∧ (goodDiskFrame d s).pending = s.pending ∧
    (goodDiskFrame d s).draws = s.draws := by simp [goodDiskFrame]

@[simp] theorem goodFrame_frame (l : Link) (s : State) :
    (goodFrame l s).admission = s.admission ∧ (goodFrame l s).lending = s.lending ∧ (goodFrame l s).loan = s.loan ∧
    (goodFrame l s).meter = s.meter ∧ (goodFrame l s).stages = s.stages ∧ (goodFrame l s).dispatch = s.dispatch ∧
    (goodFrame l s).lock = s.lock ∧ (goodFrame l s).pending = s.pending ∧ (goodFrame l s).draws = s.draws := by cases l <;> simp [goodFrame]

@[simp] theorem damagedFrame_frame (l : Link) (s : State) :
    (damagedFrame l s).admission = s.admission ∧ (damagedFrame l s).lending = s.lending ∧
    (damagedFrame l s).loan = s.loan ∧ (damagedFrame l s).meter = s.meter ∧ (damagedFrame l s).stages = s.stages ∧
    (damagedFrame l s).dispatch = s.dispatch ∧ (damagedFrame l s).lock = s.lock ∧
    (damagedFrame l s).management = s.management ∧ (damagedFrame l s).pending = s.pending ∧
    (damagedFrame l s).draws = s.draws := by cases l <;> simp [damagedFrame]

@[simp] theorem nodeLinkDown_frame (n : NodePort) (s : State) :
    (nodeLinkDown n s).admission = s.admission ∧ (nodeLinkDown n s).lending = s.lending ∧
    (nodeLinkDown n s).loan = s.loan ∧ (nodeLinkDown n s).meter = s.meter ∧ (nodeLinkDown n s).stages = s.stages ∧
    (nodeLinkDown n s).dispatch = s.dispatch ∧ (nodeLinkDown n s).lock = s.lock ∧
    (nodeLinkDown n s).management = s.management ∧ (nodeLinkDown n s).pending = s.pending := by simp [nodeLinkDown]

@[simp] theorem diskLinkDown_frame (d : DiskPort) (x : List DiskFrame) (s : State) :
    (diskLinkDown d x s).admission = s.admission ∧ (diskLinkDown d x s).lending = s.lending ∧
    (diskLinkDown d x s).loan = s.loan ∧ (diskLinkDown d x s).meter = s.meter ∧
    (diskLinkDown d x s).stages = s.stages ∧ (diskLinkDown d x s).dispatch = s.dispatch ∧
    (diskLinkDown d x s).lock = s.lock ∧ (diskLinkDown d x s).management = s.management ∧
    (diskLinkDown d x s).pending = s.pending := by simp [diskLinkDown]

@[simp] theorem frameSentOn_frame (l : Link) (s : State) :
    (frameSentOn l s).admission = s.admission ∧ (frameSentOn l s).lending = s.lending ∧
    (frameSentOn l s).loan = s.loan ∧ (frameSentOn l s).meter = s.meter ∧ (frameSentOn l s).stages = s.stages ∧
    (frameSentOn l s).dispatch = s.dispatch ∧ (frameSentOn l s).lock = s.lock ∧
    (frameSentOn l s).management = s.management ∧ (frameSentOn l s).pending = s.pending ∧
    (frameSentOn l s).draws = s.draws := by cases l <;> simp [frameSentOn]

@[simp] theorem loanNotice_frame (i : LoanIdx) (x : NoticeState) (s : State) :
    (loanNotice i x s).admission = s.admission ∧ (loanNotice i x s).lending = s.lending ∧
    (loanNotice i x s).loan = s.loan ∧ (loanNotice i x s).meter = s.meter ∧ (loanNotice i x s).stages = s.stages ∧
    (loanNotice i x s).dispatch = s.dispatch ∧ (loanNotice i x s).lock = s.lock ∧
    (loanNotice i x s).management = s.management ∧ (loanNotice i x s).pending = s.pending ∧
    (loanNotice i x s).draws = s.draws := by
  unfold loanNotice
  split <;> simp

@[simp] theorem startAttempt_frame (n : NodePort) (s : State) :
    (startAttempt n s).link = s.link ∧ (startAttempt n s).lending = s.lending ∧ (startAttempt n s).loan = s.loan ∧
    (startAttempt n s).meter = s.meter ∧ (startAttempt n s).stages = s.stages ∧
    (startAttempt n s).dispatch = s.dispatch ∧ (startAttempt n s).lock = s.lock ∧
    (startAttempt n s).management = s.management ∧ (startAttempt n s).pending = s.pending ∧
    (startAttempt n s).draws = s.draws := by simp [startAttempt]

end Sys2Proof.Machine
end

