-- ==== Sys2Proof/Laws/FrameBlocks.lean ====
section
/-! SUPPORT. What the shared operations leave alone, block by block: loans, meters and locks. -/

namespace Sys2Proof.Machine

@[simp] theorem grant_frame (v : Volume) (n : NodePort) (m : LoanMode) (t : Nat) (s : State) :
    (grant v n m t s).1.link = s.link ∧ (grant v n m t s).1.admission = s.admission ∧
    (grant v n m t s).1.lending = s.lending ∧ (grant v n m t s).1.meter = s.meter ∧
    (grant v n m t s).1.stages = s.stages ∧ (grant v n m t s).1.dispatch = s.dispatch ∧
    (grant v n m t s).1.lock = s.lock ∧ (grant v n m t s).1.management = s.management ∧
    (grant v n m t s).1.pending = s.pending ∧ (grant v n m t s).1.draws = s.draws := by
  unfold grant
  split
  · simp
  · split <;> simp

@[simp] theorem renewPair_frame (v : Volume) (n : NodePort) (s : State) :
    (renewPair v n s).admission = s.admission ∧ (renewPair v n s).lending = s.lending ∧
    (renewPair v n s).meter = s.meter ∧ (renewPair v n s).stages = s.stages ∧
    (renewPair v n s).dispatch = s.dispatch ∧ (renewPair v n s).lock = s.lock ∧
    (renewPair v n s).management = s.management ∧ (renewPair v n s).pending = s.pending ∧
    (renewPair v n s).draws = s.draws := by
  unfold renewPair
  dsimp only
  split
  · simp
  · split <;> simp

@[simp] theorem recallLoans_frame (n : NodePort) (s : State) :
    (recallLoans n s).link = s.link ∧ (recallLoans n s).admission = s.admission ∧
    (recallLoans n s).lending = s.lending ∧ (recallLoans n s).meter = s.meter ∧ (recallLoans n s).stages = s.stages ∧
    (recallLoans n s).dispatch = s.dispatch ∧ (recallLoans n s).lock = s.lock ∧
    (recallLoans n s).management = s.management ∧ (recallLoans n s).pending = s.pending ∧
    (recallLoans n s).draws = s.draws := by simp [recallLoans]

@[simp] theorem refillNode_frame (n : NodePort) (s : State) :
    (refillNode n s).link = s.link ∧ (refillNode n s).lending = s.lending ∧ (refillNode n s).loan = s.loan ∧
    (refillNode n s).stages = s.stages ∧ (refillNode n s).dispatch = s.dispatch ∧ (refillNode n s).lock = s.lock ∧
    (refillNode n s).management = s.management ∧ (refillNode n s).pending = s.pending ∧
    (refillNode n s).draws = s.draws := by
  unfold refillNode
  dsimp only
  split
  · split <;> simp
  · simp

@[simp] theorem charge_frame (n : NodePort) (c : Nat) (s : State) :
    (charge n c s).link = s.link ∧ (charge n c s).admission = s.admission ∧ (charge n c s).lending = s.lending ∧
    (charge n c s).loan = s.loan ∧ (charge n c s).stages = s.stages ∧ (charge n c s).dispatch = s.dispatch ∧
    (charge n c s).lock = s.lock ∧ (charge n c s).management = s.management ∧ (charge n c s).pending = s.pending ∧
    (charge n c s).draws = s.draws := by
  unfold charge
  split <;> simp

@[simp] theorem tallyStep_frame (s : State) :
    (tallyStep s).admission = s.admission ∧ (tallyStep s).lending = s.lending ∧ (tallyStep s).loan = s.loan ∧
    (tallyStep s).stages = s.stages ∧ (tallyStep s).dispatch = s.dispatch ∧ (tallyStep s).lock = s.lock ∧
    (tallyStep s).pending = s.pending ∧ (tallyStep s).draws = s.draws := by
  unfold tallyStep
  dsimp only
  split <;> simp

@[simp] theorem tallyAtExpiry_frame (s : State) :
    (tallyAtExpiry s).link = s.link ∧ (tallyAtExpiry s).admission = s.admission ∧
    (tallyAtExpiry s).lending = s.lending ∧ (tallyAtExpiry s).loan = s.loan ∧ (tallyAtExpiry s).stages = s.stages ∧
    (tallyAtExpiry s).dispatch = s.dispatch ∧ (tallyAtExpiry s).lock = s.lock ∧
    (tallyAtExpiry s).management = s.management ∧ (tallyAtExpiry s).pending = s.pending ∧
    (tallyAtExpiry s).draws = s.draws := by
  unfold tallyAtExpiry
  split <;> simp

@[simp] theorem activateClaim_frame (c : Claim) (s : State) :
    (activateClaim c s).admission = s.admission ∧ (activateClaim c s).lending = s.lending ∧
    (activateClaim c s).loan = s.loan ∧ (activateClaim c s).meter = s.meter ∧ (activateClaim c s).stages = s.stages ∧
    (activateClaim c s).dispatch = s.dispatch ∧ (activateClaim c s).pending = s.pending ∧
    (activateClaim c s).draws = s.draws := by simp [activateClaim]

@[simp] theorem handOff_frame (s : State) :
    (handOff s).admission = s.admission ∧ (handOff s).lending = s.lending ∧ (handOff s).loan = s.loan ∧
    (handOff s).meter = s.meter ∧ (handOff s).stages = s.stages ∧ (handOff s).dispatch = s.dispatch ∧
    (handOff s).pending = s.pending ∧ (handOff s).draws = s.draws := by
  unfold handOff
  split <;> simp

@[simp] theorem dropClaims_frame (p : Claim → Bool) (s : State) :
    (dropClaims p s).admission = s.admission ∧ (dropClaims p s).lending = s.lending ∧
    (dropClaims p s).loan = s.loan ∧ (dropClaims p s).meter = s.meter ∧ (dropClaims p s).stages = s.stages ∧
    (dropClaims p s).dispatch = s.dispatch ∧ (dropClaims p s).pending = s.pending ∧ (dropClaims p s).draws = s.draws := by
  unfold dropClaims
  dsimp only
  split
  · simp
  · split <;> simp

@[simp] theorem judgeClaim_frame (c : Claim) (s : State) :
    (judgeClaim c s).admission = s.admission ∧ (judgeClaim c s).lending = s.lending ∧
    (judgeClaim c s).loan = s.loan ∧ (judgeClaim c s).meter = s.meter ∧ (judgeClaim c s).stages = s.stages ∧
    (judgeClaim c s).dispatch = s.dispatch ∧ (judgeClaim c s).pending = s.pending ∧ (judgeClaim c s).draws = s.draws := by
  unfold judgeClaim
  split
  · simp
  · split
    · simp
    · split <;> simp

@[simp] theorem countRetry_frame (n : NodePort) (v : Volume) (g : Nat) (s : State) :
    (countRetry n v g s).admission = s.admission ∧ (countRetry n v g s).lending = s.lending ∧
    (countRetry n v g s).loan = s.loan ∧ (countRetry n v g s).meter = s.meter ∧
    (countRetry n v g s).stages = s.stages ∧ (countRetry n v g s).dispatch = s.dispatch ∧
    (countRetry n v g s).pending = s.pending ∧ (countRetry n v g s).draws = s.draws := by simp [countRetry]

@[simp] theorem takeLock_frame (n : NodePort) (v : Volume) (g : Nat) (s : State) :
    (takeLock n v g s).admission = s.admission ∧ (takeLock n v g s).lending = s.lending ∧
    (takeLock n v g s).loan = s.loan ∧ (takeLock n v g s).meter = s.meter ∧ (takeLock n v g s).stages = s.stages ∧
    (takeLock n v g s).dispatch = s.dispatch ∧ (takeLock n v g s).pending = s.pending ∧
    (takeLock n v g s).draws = s.draws := by
  unfold takeLock
  split <;> simp

@[simp] theorem giveLock_frame (n : NodePort) (v : Volume) (g : Nat) (s : State) :
    (giveLock n v g s).link = s.link ∧ (giveLock n v g s).admission = s.admission ∧
    (giveLock n v g s).lending = s.lending ∧ (giveLock n v g s).loan = s.loan ∧ (giveLock n v g s).meter = s.meter ∧
    (giveLock n v g s).stages = s.stages ∧ (giveLock n v g s).dispatch = s.dispatch ∧
    (giveLock n v g s).management = s.management ∧ (giveLock n v g s).pending = s.pending ∧
    (giveLock n v g s).draws = s.draws := by
  unfold giveLock
  split
  · simp
  · split <;> simp

@[simp] theorem lockAtAdmission_frame (k : ReqKind) (n : NodePort) (v : Volume) (g : Nat) (s : State) :
    (lockAtAdmission k n v g s).admission = s.admission ∧ (lockAtAdmission k n v g s).lending = s.lending ∧
    (lockAtAdmission k n v g s).loan = s.loan ∧ (lockAtAdmission k n v g s).meter = s.meter ∧
    (lockAtAdmission k n v g s).stages = s.stages ∧ (lockAtAdmission k n v g s).dispatch = s.dispatch ∧
    (lockAtAdmission k n v g s).pending = s.pending ∧ (lockAtAdmission k n v g s).draws = s.draws := by cases k <;> simp [lockAtAdmission]

@[simp] theorem freeLocks_frame (p : Lock → Bool) (s : State) :
    (freeLocks p s).link = s.link ∧ (freeLocks p s).admission = s.admission ∧ (freeLocks p s).lending = s.lending ∧
    (freeLocks p s).loan = s.loan ∧ (freeLocks p s).meter = s.meter ∧ (freeLocks p s).stages = s.stages ∧
    (freeLocks p s).dispatch = s.dispatch ∧ (freeLocks p s).management = s.management ∧
    (freeLocks p s).pending = s.pending ∧ (freeLocks p s).draws = s.draws := by simp [freeLocks]

@[simp] theorem lockStep_frame (k : LockIdx) (s : State) :
    (lockStep k s).admission = s.admission ∧ (lockStep k s).lending = s.lending ∧ (lockStep k s).loan = s.loan ∧
    (lockStep k s).meter = s.meter ∧ (lockStep k s).stages = s.stages ∧ (lockStep k s).dispatch = s.dispatch ∧
    (lockStep k s).pending = s.pending ∧ (lockStep k s).draws = s.draws := by
  unfold lockStep
  dsimp only
  split
  · simp
  · split <;> simp

@[simp] theorem timerStep_frame (s : State) :
    (timerStep s).admission = s.admission ∧ (timerStep s).lending = s.lending ∧ (timerStep s).loan = s.loan ∧
    (timerStep s).meter = s.meter ∧ (timerStep s).stages = s.stages ∧ (timerStep s).dispatch = s.dispatch ∧
    (timerStep s).pending = s.pending ∧ (timerStep s).draws = s.draws := by
  unfold timerStep
  dsimp only
  split
  · simp
  · split <;> simp

@[simp] theorem timerAtExpiry_frame (s : State) :
    (timerAtExpiry s).link = s.link ∧ (timerAtExpiry s).admission = s.admission ∧
    (timerAtExpiry s).lending = s.lending ∧ (timerAtExpiry s).loan = s.loan ∧ (timerAtExpiry s).meter = s.meter ∧
    (timerAtExpiry s).stages = s.stages ∧ (timerAtExpiry s).dispatch = s.dispatch ∧
    (timerAtExpiry s).management = s.management ∧ (timerAtExpiry s).pending = s.pending ∧
    (timerAtExpiry s).draws = s.draws := by
  unfold timerAtExpiry
  split
  · simp
  · split <;> simp

end Sys2Proof.Machine
end

