-- ==== Sys2Proof/Laws/FrameLending.lean ====
section
/-! SUPPORT. What the shared operations leave alone, block by block: map reads and translation. -/

namespace Sys2Proof.Machine

@[simp] theorem readMapEntry_frame (i : MapIdx) (s : State) :
    (readMapEntry i s).admission = s.admission ∧ (readMapEntry i s).loan = s.loan ∧
    (readMapEntry i s).meter = s.meter ∧ (readMapEntry i s).stages = s.stages ∧
    (readMapEntry i s).dispatch = s.dispatch ∧ (readMapEntry i s).lock = s.lock ∧
    (readMapEntry i s).pending = s.pending ∧ (readMapEntry i s).draws = s.draws := by
  unfold readMapEntry
  dsimp only
  split <;> simp

@[simp] theorem raiseMapFault_frame (k : ReqKind) (i : Nat) (s : State) :
    (raiseMapFault k i s).admission = s.admission ∧ (raiseMapFault k i s).lending = s.lending ∧
    (raiseMapFault k i s).loan = s.loan ∧ (raiseMapFault k i s).meter = s.meter ∧
    (raiseMapFault k i s).stages = s.stages ∧ (raiseMapFault k i s).dispatch = s.dispatch ∧
    (raiseMapFault k i s).lock = s.lock ∧ (raiseMapFault k i s).pending = s.pending ∧
    (raiseMapFault k i s).draws = s.draws := by
  unfold raiseMapFault
  dsimp only
  split <;> simp

@[simp] theorem scanMap_frame (kind : ReqKind) (v : Volume) (g k i : Nat) (s : State) :
    (scanMap kind v g k i s).1.admission = s.admission ∧ (scanMap kind v g k i s).1.loan = s.loan ∧
    (scanMap kind v g k i s).1.meter = s.meter ∧ (scanMap kind v g k i s).1.stages = s.stages ∧
    (scanMap kind v g k i s).1.dispatch = s.dispatch ∧ (scanMap kind v g k i s).1.lock = s.lock ∧
    (scanMap kind v g k i s).1.pending = s.pending ∧ (scanMap kind v g k i s).1.draws = s.draws := by
  induction k generalizing i s with
  | zero => simp [scanMap]
  | succ k ih =>
    unfold scanMap
    dsimp only
    split
    · split
      · simp
      · split
        · simp
        · simp [ih]
    · simp

@[simp] theorem translateCut_frame (kind : ReqKind) (v : Volume) (c : Cut) (s : State) :
    (translateCut kind v c s).1.admission = s.admission ∧ (translateCut kind v c s).1.loan = s.loan ∧
    (translateCut kind v c s).1.meter = s.meter ∧ (translateCut kind v c s).1.stages = s.stages ∧
    (translateCut kind v c s).1.dispatch = s.dispatch ∧ (translateCut kind v c s).1.lock = s.lock ∧
    (translateCut kind v c s).1.pending = s.pending ∧ (translateCut kind v c s).1.draws = s.draws := by
  have h := scanMap_frame kind v c.granule (s.volume v).extents (s.volume v).first.val s
  unfold translateCut
  split
  · rename_i e; rw [e] at h; exact h
  · rename_i e; rw [e] at h; split <;> exact h

@[simp] theorem translateAll_frame (kind : ReqKind) (v : Volume) (cs : List Cut) (s : State) :
    (translateAll kind v cs s).1.admission = s.admission ∧ (translateAll kind v cs s).1.loan = s.loan ∧
    (translateAll kind v cs s).1.meter = s.meter ∧ (translateAll kind v cs s).1.stages = s.stages ∧
    (translateAll kind v cs s).1.dispatch = s.dispatch ∧ (translateAll kind v cs s).1.lock = s.lock ∧
    (translateAll kind v cs s).1.pending = s.pending ∧ (translateAll kind v cs s).1.draws = s.draws := by
  induction cs generalizing s with
  | nil => simp [translateAll]
  | cons c cs ih =>
    have h := translateCut_frame kind v c s
    unfold translateAll
    split
    · rename_i e; rw [e] at h; exact h
    · rename_i s1 p e
      rw [e] at h
      have h2 := ih s1
      split
      · rename_i e2; rw [e2] at h2; simp at h h2 ⊢; simp [h, h2]
      · rename_i e2; rw [e2] at h2; simp at h h2 ⊢; simp [h, h2]

@[simp] theorem raiseInFlight_frame (v : Volume) (c : Nat) (s : State) :
    (raiseInFlight v c s).link = s.link ∧ (raiseInFlight v c s).admission = s.admission ∧
    (raiseInFlight v c s).loan = s.loan ∧ (raiseInFlight v c s).meter = s.meter ∧
    (raiseInFlight v c s).stages = s.stages ∧ (raiseInFlight v c s).dispatch = s.dispatch ∧
    (raiseInFlight v c s).lock = s.lock ∧ (raiseInFlight v c s).management = s.management ∧
    (raiseInFlight v c s).pending = s.pending ∧ (raiseInFlight v c s).draws = s.draws := by simp [raiseInFlight]

@[simp] theorem lowerInFlight_frame (v : Volume) (c : Nat) (s : State) :
    (lowerInFlight v c s).link = s.link ∧ (lowerInFlight v c s).admission = s.admission ∧
    (lowerInFlight v c s).loan = s.loan ∧ (lowerInFlight v c s).meter = s.meter ∧
    (lowerInFlight v c s).stages = s.stages ∧ (lowerInFlight v c s).dispatch = s.dispatch ∧
    (lowerInFlight v c s).lock = s.lock ∧ (lowerInFlight v c s).management = s.management ∧
    (lowerInFlight v c s).pending = s.pending ∧ (lowerInFlight v c s).draws = s.draws := by simp [lowerInFlight]

end Sys2Proof.Machine
end

