-- ==== Sys2Proof/Laws/FrameStages.lean ====
section
/-! SUPPORT. What the shared operations leave alone, block by block: stages and lanes. -/

namespace Sys2Proof.Machine

@[simp] theorem leaveLanes_frame (d : DiskPort) (i : StageIdx) (s : State) :
    (leaveLanes d i s).link = s.link ∧ (leaveLanes d i s).admission = s.admission ∧
    (leaveLanes d i s).lending = s.lending ∧ (leaveLanes d i s).loan = s.loan ∧ (leaveLanes d i s).meter = s.meter ∧
    (leaveLanes d i s).stages = s.stages ∧ (leaveLanes d i s).lock = s.lock ∧
    (leaveLanes d i s).management = s.management ∧ (leaveLanes d i s).pending = s.pending ∧
    (leaveLanes d i s).draws = s.draws := by simp [leaveLanes]

@[simp] theorem laneTail_frame (d : DiskPort) (c : Class) (i : StageIdx) (s : State) :
    (laneTail d c i s).link = s.link ∧ (laneTail d c i s).admission = s.admission ∧
    (laneTail d c i s).lending = s.lending ∧ (laneTail d c i s).loan = s.loan ∧ (laneTail d c i s).meter = s.meter ∧
    (laneTail d c i s).stages = s.stages ∧ (laneTail d c i s).lock = s.lock ∧
    (laneTail d c i s).management = s.management ∧ (laneTail d c i s).pending = s.pending ∧
    (laneTail d c i s).draws = s.draws := by simp [laneTail]

@[simp] theorem laneFront_frame (d : DiskPort) (c : Class) (i : StageIdx) (s : State) :
    (laneFront d c i s).link = s.link ∧ (laneFront d c i s).admission = s.admission ∧
    (laneFront d c i s).lending = s.lending ∧ (laneFront d c i s).loan = s.loan ∧
    (laneFront d c i s).meter = s.meter ∧ (laneFront d c i s).stages = s.stages ∧ (laneFront d c i s).lock = s.lock ∧
    (laneFront d c i s).management = s.management ∧ (laneFront d c i s).pending = s.pending ∧
    (laneFront d c i s).draws = s.draws := by simp [laneFront]

@[simp] theorem freeStage_frame (i : StageIdx) (s : State) :
    (freeStage i s).link = s.link ∧ (freeStage i s).admission = s.admission ∧ (freeStage i s).lending = s.lending ∧
    (freeStage i s).loan = s.loan ∧ (freeStage i s).meter = s.meter ∧ (freeStage i s).lock = s.lock ∧
    (freeStage i s).management = s.management ∧ (freeStage i s).pending = s.pending ∧ (freeStage i s).draws = s.draws := by simp [freeStage]

@[simp] theorem owePass_frame (b s : State) :
    (owePass b s).link = s.link ∧ (owePass b s).admission = s.admission ∧ (owePass b s).lending = s.lending ∧
    (owePass b s).loan = s.loan ∧ (owePass b s).meter = s.meter ∧ (owePass b s).dispatch = s.dispatch ∧
    (owePass b s).lock = s.lock ∧ (owePass b s).management = s.management ∧ (owePass b s).pending = s.pending ∧
    (owePass b s).draws = s.draws := by
  unfold owePass
  split <;> simp

@[simp] theorem newStage_frame (k : StageKind) (p : Piece) (c : Class) (w : List Waiter) (o : Option Owner) (x : List Block) (s : State) :
    (newStage k p c w o x s).link = s.link ∧ (newStage k p c w o x s).admission = s.admission ∧
    (newStage k p c w o x s).lending = s.lending ∧ (newStage k p c w o x s).loan = s.loan ∧
    (newStage k p c w o x s).meter = s.meter ∧ (newStage k p c w o x s).lock = s.lock ∧
    (newStage k p c w o x s).management = s.management ∧ (newStage k p c w o x s).pending = s.pending ∧
    (newStage k p c w o x s).draws = s.draws := by
  unfold newStage
  dsimp only
  split <;> simp

@[simp] theorem joinStage_frame (i : StageIdx) (w : Waiter) (c : Class) (s : State) :
    (joinStage i w c s).link = s.link ∧ (joinStage i w c s).admission = s.admission ∧
    (joinStage i w c s).lending = s.lending ∧ (joinStage i w c s).loan = s.loan ∧
    (joinStage i w c s).meter = s.meter ∧ (joinStage i w c s).lock = s.lock ∧
    (joinStage i w c s).management = s.management ∧ (joinStage i w c s).pending = s.pending ∧
    (joinStage i w c s).draws = s.draws := by
  unfold joinStage
  dsimp only
  split <;> simp

@[simp] theorem createPiece_frame (n : NodePort) (k : SlotIdx) (kind : ReqKind) (c : Class) (p : Piece) (x : List Block) (s : State) :
    (createPiece n k kind c p x s).link = s.link ∧ (createPiece n k kind c p x s).admission = s.admission ∧
    (createPiece n k kind c p x s).lending = s.lending ∧ (createPiece n k kind c p x s).loan = s.loan ∧
    (createPiece n k kind c p x s).meter = s.meter ∧ (createPiece n k kind c p x s).lock = s.lock ∧
    (createPiece n k kind c p x s).management = s.management ∧ (createPiece n k kind c p x s).pending = s.pending ∧
    (createPiece n k kind c p x s).draws = s.draws := by
  unfold createPiece
  split
  · simp
  · split <;> simp

@[simp] theorem createPieces_frame (n : NodePort) (k : SlotIdx) (kind : ReqKind) (c : Class) (ps : List Piece) (x : List Block) (s : State) :
    (createPieces n k kind c ps x s).link = s.link ∧ (createPieces n k kind c ps x s).admission = s.admission ∧
    (createPieces n k kind c ps x s).lending = s.lending ∧ (createPieces n k kind c ps x s).loan = s.loan ∧
    (createPieces n k kind c ps x s).meter = s.meter ∧ (createPieces n k kind c ps x s).lock = s.lock ∧
    (createPieces n k kind c ps x s).management = s.management ∧
    (createPieces n k kind c ps x s).pending = s.pending ∧ (createPieces n k kind c ps x s).draws = s.draws := by
  induction ps generalizing x s with
  | nil => simp [createPieces]
  | cons p ps ih => simp [createPieces, ih]

end Sys2Proof.Machine
end

