-- ==== Sys2Proof/Laws/FrameRequests.lean ====
section
/-! SUPPORT. What the shared operations leave alone, block by block: the ends of pieces, stages and requests. -/

namespace Sys2Proof.Machine

@[simp] theorem freeSlot_frame (n : NodePort) (k : SlotIdx) (s : State) :
    (freeSlot n k s).link = s.link ∧ (freeSlot n k s).lending = s.lending ∧ (freeSlot n k s).loan = s.loan ∧
    (freeSlot n k s).meter = s.meter ∧ (freeSlot n k s).stages = s.stages ∧ (freeSlot n k s).dispatch = s.dispatch ∧
    (freeSlot n k s).lock = s.lock ∧ (freeSlot n k s).management = s.management ∧
    (freeSlot n k s).pending = s.pending ∧ (freeSlot n k s).draws = s.draws := by simp [freeSlot]

@[simp] theorem noteHead_frame (n : NodePort) (b s : State) :
    (noteHead n b s).link = s.link ∧ (noteHead n b s).lending = s.lending ∧ (noteHead n b s).loan = s.loan ∧
    (noteHead n b s).meter = s.meter ∧ (noteHead n b s).stages = s.stages ∧ (noteHead n b s).dispatch = s.dispatch ∧
    (noteHead n b s).lock = s.lock ∧ (noteHead n b s).management = s.management ∧
    (noteHead n b s).pending = s.pending ∧ (noteHead n b s).draws = s.draws := by
  unfold noteHead
  split
  · simp
  · split <;> simp

@[simp] theorem settleStage_frame (i : StageIdx) (s : State) :
    (settleStage i s).link = s.link ∧ (settleStage i s).admission = s.admission ∧
    (settleStage i s).lending = s.lending ∧ (settleStage i s).loan = s.loan ∧ (settleStage i s).meter = s.meter ∧
    (settleStage i s).lock = s.lock ∧ (settleStage i s).management = s.management ∧
    (settleStage i s).pending = s.pending ∧ (settleStage i s).draws = s.draws := by
  unfold settleStage
  dsimp only
  split
  · split <;> simp
  · simp

@[simp] theorem detachPiece_frame (n : NodePort) (k : SlotIdx) (i : StageIdx) (s : State) :
    (detachPiece n k i s).link = s.link ∧ (detachPiece n k i s).admission = s.admission ∧
    (detachPiece n k i s).lending = s.lending ∧ (detachPiece n k i s).loan = s.loan ∧
    (detachPiece n k i s).meter = s.meter ∧ (detachPiece n k i s).lock = s.lock ∧
    (detachPiece n k i s).management = s.management ∧ (detachPiece n k i s).pending = s.pending ∧
    (detachPiece n k i s).draws = s.draws := by simp [detachPiece]

@[simp] theorem detachPieces_frame (n : NodePort) (k : SlotIdx) (l : List StageIdx) (s : State) :
    (l.foldl (fun s i => detachPiece n k i s) s).link = s.link ∧
    (l.foldl (fun s i => detachPiece n k i s) s).admission = s.admission ∧
    (l.foldl (fun s i => detachPiece n k i s) s).lending = s.lending ∧
    (l.foldl (fun s i => detachPiece n k i s) s).loan = s.loan ∧
    (l.foldl (fun s i => detachPiece n k i s) s).meter = s.meter ∧
    (l.foldl (fun s i => detachPiece n k i s) s).lock = s.lock ∧
    (l.foldl (fun s i => detachPiece n k i s) s).management = s.management ∧
    (l.foldl (fun s i => detachPiece n k i s) s).pending = s.pending ∧
    (l.foldl (fun s i => detachPiece n k i s) s).draws = s.draws := by
  refine ⟨?_, ?_, ?_, ?_, ?_, ?_, ?_, ?_, ?_⟩ <;> exact foldl_keeps _ _ (by simp) _ _

@[simp] theorem withdrawPieces_frame (n : NodePort) (k : SlotIdx) (s : State) :
    (withdrawPieces n k s).link = s.link ∧ (withdrawPieces n k s).admission = s.admission ∧
    (withdrawPieces n k s).loan = s.loan ∧ (withdrawPieces n k s).meter = s.meter ∧
    (withdrawPieces n k s).lock = s.lock ∧ (withdrawPieces n k s).management = s.management ∧
    (withdrawPieces n k s).pending = s.pending ∧ (withdrawPieces n k s).draws = s.draws := by simp [withdrawPieces]

@[simp] theorem endRequest_frame (n : NodePort) (k : SlotIdx) (st : Option Status) (s : State) :
    (endRequest n k st s).loan = s.loan ∧ (endRequest n k st s).meter = s.meter ∧
    (endRequest n k st s).lock = s.lock ∧ (endRequest n k st s).management = s.management ∧
    (endRequest n k st s).pending = s.pending ∧ (endRequest n k st s).draws = s.draws := by
  unfold endRequest
  dsimp only
  split <;> simp

@[simp] theorem completePiece_frame (n : NodePort) (k : SlotIdx) (c : Nat) (s : State) :
    (completePiece n k c s).loan = s.loan ∧ (completePiece n k c s).stages = s.stages ∧
    (completePiece n k c s).dispatch = s.dispatch ∧ (completePiece n k c s).lock = s.lock ∧
    (completePiece n k c s).management = s.management ∧ (completePiece n k c s).pending = s.pending ∧
    (completePiece n k c s).draws = s.draws := by
  unfold completePiece
  dsimp only
  split <;> simp

@[simp] theorem failPiece_frame (n : NodePort) (k : SlotIdx) (st : Status) (s : State) :
    (failPiece n k st s).loan = s.loan ∧ (failPiece n k st s).meter = s.meter ∧ (failPiece n k st s).lock = s.lock ∧
    (failPiece n k st s).management = s.management ∧ (failPiece n k st s).pending = s.pending ∧
    (failPiece n k st s).draws = s.draws := by simp [failPiece]

@[simp] theorem completePieces_frame (l : List Ended) (s : State) :
    (l.foldl (fun s e => completePiece e.node e.slot e.count s) s).loan = s.loan ∧
    (l.foldl (fun s e => completePiece e.node e.slot e.count s) s).stages = s.stages ∧
    (l.foldl (fun s e => completePiece e.node e.slot e.count s) s).dispatch = s.dispatch ∧
    (l.foldl (fun s e => completePiece e.node e.slot e.count s) s).lock = s.lock ∧
    (l.foldl (fun s e => completePiece e.node e.slot e.count s) s).management = s.management ∧
    (l.foldl (fun s e => completePiece e.node e.slot e.count s) s).pending = s.pending ∧
    (l.foldl (fun s e => completePiece e.node e.slot e.count s) s).draws = s.draws := by
  refine ⟨?_, ?_, ?_, ?_, ?_, ?_, ?_⟩ <;> exact foldl_keeps _ _ (by simp) _ _

@[simp] theorem failPieces_frame (l : List Ended) (st : Status) (s : State) :
    (l.foldl (fun s e => failPiece e.node e.slot st s) s).loan = s.loan ∧
    (l.foldl (fun s e => failPiece e.node e.slot st s) s).meter = s.meter ∧
    (l.foldl (fun s e => failPiece e.node e.slot st s) s).lock = s.lock ∧
    (l.foldl (fun s e => failPiece e.node e.slot st s) s).management = s.management ∧
    (l.foldl (fun s e => failPiece e.node e.slot st s) s).pending = s.pending ∧
    (l.foldl (fun s e => failPiece e.node e.slot st s) s).draws = s.draws := by
  refine ⟨?_, ?_, ?_, ?_, ?_, ?_⟩ <;> exact foldl_keeps _ _ (by simp) _ _

@[simp] theorem completeStage_frame (i : StageIdx) (s : State) :
    (completeStage i s).loan = s.loan ∧ (completeStage i s).lock = s.lock ∧
    (completeStage i s).management = s.management ∧ (completeStage i s).pending = s.pending ∧
    (completeStage i s).draws = s.draws := by simp [completeStage]

@[simp] theorem failStage_frame (i : StageIdx) (st : Status) (s : State) :
    (failStage i st s).loan = s.loan ∧ (failStage i st s).meter = s.meter ∧ (failStage i st s).lock = s.lock ∧
    (failStage i st s).management = s.management ∧ (failStage i st s).pending = s.pending ∧
    (failStage i st s).draws = s.draws := by simp [failStage]

@[simp] theorem protocolError_frame (i : StageIdx) (s : State) :
    (protocolError i s).loan = s.loan ∧ (protocolError i s).meter = s.meter ∧ (protocolError i s).lock = s.lock ∧
    (protocolError i s).pending = s.pending ∧ (protocolError i s).draws = s.draws := by simp [protocolError]

end Sys2Proof.Machine
end

