-- ==== Sys2Proof/Laws/FrameEndings.lean ====
section
/-! SUPPORT. What the shared operations leave alone, block by block: loan ends, departures, losses and restarts. -/

namespace Sys2Proof.Machine

@[simp] theorem endRequests_frame (n : NodePort) (st : Option Status) (l : List SlotIdx) (s : State) :
    (l.foldl (fun s k => endRequest n k st s) s).loan = s.loan ∧
    (l.foldl (fun s k => endRequest n k st s) s).meter = s.meter ∧
    (l.foldl (fun s k => endRequest n k st s) s).lock = s.lock ∧
    (l.foldl (fun s k => endRequest n k st s) s).management = s.management ∧
    (l.foldl (fun s k => endRequest n k st s) s).pending = s.pending ∧
    (l.foldl (fun s k => endRequest n k st s) s).draws = s.draws := by
  refine ⟨?_, ?_, ?_, ?_, ?_, ?_⟩ <;> exact foldl_keeps _ _ (by simp) _ _

@[simp] theorem endLoanWork_frame (n : NodePort) (v : Volume) (st : Status) (s : State) :
    (endLoanWork n v st s).loan = s.loan ∧ (endLoanWork n v st s).meter = s.meter ∧
    (endLoanWork n v st s).pending = s.pending ∧ (endLoanWork n v st s).draws = s.draws := by simp [endLoanWork]

@[simp] theorem lapseLoan_frame (i : LoanIdx) (s : State) :
    (lapseLoan i s).meter = s.meter ∧ (lapseLoan i s).pending = s.pending ∧ (lapseLoan i s).draws = s.draws := by simp [lapseLoan]

@[simp] theorem loanStep_frame (i : LoanIdx) (s : State) :
    (loanStep i s).meter = s.meter ∧ (loanStep i s).pending = s.pending ∧ (loanStep i s).draws = s.draws := by
  unfold loanStep
  dsimp only
  split
  · simp
  · split
    · simp
    · split <;> simp

@[simp] theorem revoke_frame (i : LoanIdx) (s : State) :
    (revoke i s).1.meter = s.meter ∧ (revoke i s).1.pending = s.pending ∧ (revoke i s).1.draws = s.draws := by
  unfold revoke
  dsimp only
  split <;> simp

@[simp] theorem departure_frame (n : NodePort) (s : State) :
    (departure n s).meter = s.meter ∧ (departure n s).pending = s.pending := by simp [departure]

@[simp] theorem loseStage_frame (d : DiskPort) (i : StageIdx) (s : State) :
    (loseStage d i s).loan = s.loan ∧ (loseStage d i s).meter = s.meter ∧ (loseStage d i s).lock = s.lock ∧
    (loseStage d i s).management = s.management ∧ (loseStage d i s).pending = s.pending ∧
    (loseStage d i s).draws = s.draws := by
  unfold loseStage
  split <;> simp

@[simp] theorem loseStages_frame (d : DiskPort) (l : List StageIdx) (s : State) :
    (l.foldl (fun s i => loseStage d i s) s).loan = s.loan ∧
    (l.foldl (fun s i => loseStage d i s) s).meter = s.meter ∧
    (l.foldl (fun s i => loseStage d i s) s).lock = s.lock ∧
    (l.foldl (fun s i => loseStage d i s) s).management = s.management ∧
    (l.foldl (fun s i => loseStage d i s) s).pending = s.pending ∧
    (l.foldl (fun s i => loseStage d i s) s).draws = s.draws := by
  refine ⟨?_, ?_, ?_, ?_, ?_, ?_⟩ <;> exact foldl_keeps _ _ (by simp) _ _

@[simp] theorem diskLoss_frame (d : DiskPort) (s : State) :
    (diskLoss d s).loan = s.loan ∧ (diskLoss d s).meter = s.meter ∧ (diskLoss d s).lock = s.lock ∧
    (diskLoss d s).pending = s.pending ∧ (diskLoss d s).draws = s.draws := by
  unfold diskLoss
  dsimp only
  split <;> simp

@[simp] theorem linkDown_frame (l : Link) (s : State) :
    (linkDown l s).meter = s.meter ∧ (linkDown l s).pending = s.pending := by cases l <;> simp [linkDown]

@[simp] theorem restartDiskPort_frame (d : DiskPort) (s : State) :
    (restartDiskPort d s).loan = s.loan ∧ (restartDiskPort d s).meter = s.meter ∧
    (restartDiskPort d s).lock = s.lock ∧ (restartDiskPort d s).pending = s.pending := by
  unfold restartDiskPort
  split <;> simp

@[simp] theorem produceDones_frame (n : NodePort) (st : Status) (l : List SlotIdx) (s : State) :
    (l.foldl (fun s k => produceDone n (s.slot n k).tag st (s.slot n k).delivered s) s).admission = s.admission ∧
    (l.foldl (fun s k => produceDone n (s.slot n k).tag st (s.slot n k).delivered s) s).lending = s.lending ∧
    (l.foldl (fun s k => produceDone n (s.slot n k).tag st (s.slot n k).delivered s) s).loan = s.loan ∧
    (l.foldl (fun s k => produceDone n (s.slot n k).tag st (s.slot n k).delivered s) s).meter = s.meter ∧
    (l.foldl (fun s k => produceDone n (s.slot n k).tag st (s.slot n k).delivered s) s).stages = s.stages ∧
    (l.foldl (fun s k => produceDone n (s.slot n k).tag st (s.slot n k).delivered s) s).dispatch = s.dispatch ∧
    (l.foldl (fun s k => produceDone n (s.slot n k).tag st (s.slot n k).delivered s) s).lock = s.lock ∧
    (l.foldl (fun s k => produceDone n (s.slot n k).tag st (s.slot n k).delivered s) s).management = s.management ∧
    (l.foldl (fun s k => produceDone n (s.slot n k).tag st (s.slot n k).delivered s) s).pending = s.pending ∧
    (l.foldl (fun s k => produceDone n (s.slot n k).tag st (s.slot n k).delivered s) s).draws = s.draws := by
  refine ⟨?_, ?_, ?_, ?_, ?_, ?_, ?_, ?_, ?_, ?_⟩ <;> exact foldl_keeps _ _ (by simp) _ _

@[simp] theorem abortNode_frame (n : NodePort) (s : State) :
    (abortNode n s).admission = s.admission ∧ (abortNode n s).lending = s.lending ∧ (abortNode n s).loan = s.loan ∧
    (abortNode n s).meter = s.meter ∧ (abortNode n s).stages = s.stages ∧ (abortNode n s).dispatch = s.dispatch ∧
    (abortNode n s).lock = s.lock ∧ (abortNode n s).management = s.management ∧ (abortNode n s).pending = s.pending ∧
    (abortNode n s).draws = s.draws := by
  unfold abortNode
  split <;> simp

@[simp] theorem abortNodes_frame (l : List NodePort) (s : State) :
    (l.foldl (fun s n => abortNode n s) s).admission = s.admission ∧
    (l.foldl (fun s n => abortNode n s) s).lending = s.lending ∧
    (l.foldl (fun s n => abortNode n s) s).loan = s.loan ∧ (l.foldl (fun s n => abortNode n s) s).meter = s.meter ∧
    (l.foldl (fun s n => abortNode n s) s).stages = s.stages ∧
    (l.foldl (fun s n => abortNode n s) s).dispatch = s.dispatch ∧
    (l.foldl (fun s n => abortNode n s) s).lock = s.lock ∧
    (l.foldl (fun s n => abortNode n s) s).management = s.management ∧
    (l.foldl (fun s n => abortNode n s) s).pending = s.pending ∧
    (l.foldl (fun s n => abortNode n s) s).draws = s.draws := by
  refine ⟨?_, ?_, ?_, ?_, ?_, ?_, ?_, ?_, ?_, ?_⟩ <;> exact foldl_keeps _ _ (by simp) _ _

@[simp] theorem dropDisk_frame (d : DiskPort) (s : State) :
    (dropDisk d s).admission = s.admission ∧ (dropDisk d s).lending = s.lending ∧ (dropDisk d s).loan = s.loan ∧
    (dropDisk d s).meter = s.meter ∧ (dropDisk d s).stages = s.stages ∧ (dropDisk d s).dispatch = s.dispatch ∧
    (dropDisk d s).lock = s.lock ∧ (dropDisk d s).management = s.management ∧ (dropDisk d s).pending = s.pending ∧
    (dropDisk d s).draws = s.draws := by
  unfold dropDisk
  split <;> simp

@[simp] theorem dropDisks_frame (l : List DiskPort) (s : State) :
    (l.foldl (fun s d => dropDisk d s) s).admission = s.admission ∧
    (l.foldl (fun s d => dropDisk d s) s).lending = s.lending ∧ (l.foldl (fun s d => dropDisk d s) s).loan = s.loan ∧
    (l.foldl (fun s d => dropDisk d s) s).meter = s.meter ∧ (l.foldl (fun s d => dropDisk d s) s).stages = s.stages ∧
    (l.foldl (fun s d => dropDisk d s) s).dispatch = s.dispatch ∧
    (l.foldl (fun s d => dropDisk d s) s).lock = s.lock ∧
    (l.foldl (fun s d => dropDisk d s) s).management = s.management ∧
    (l.foldl (fun s d => dropDisk d s) s).pending = s.pending ∧ (l.foldl (fun s d => dropDisk d s) s).draws = s.draws := by
  refine ⟨?_, ?_, ?_, ?_, ?_, ?_, ?_, ?_, ?_, ?_⟩ <;> exact foldl_keeps _ _ (by simp) _ _

@[simp] theorem restartPart_frame (s : State) :
    (restartPart s).management = s.management ∧ (restartPart s).pending = s.pending ∧ (restartPart s).draws = s.draws := by simp [restartPart]

end Sys2Proof.Machine
end

