-- ==== Sys2Proof/Laws/FrameAdmission.lean ====
section
/-! SUPPORT. What the shared operations leave alone, block by block: arrivals, attempts and passes. -/

namespace Sys2Proof.Machine

@[simp] theorem acceptRequest_frame (n : NodePort) (k : SlotIdx) (kind : ReqKind) (f : RequestFrame) (s : State) :
    (acceptRequest n k kind f s).link = s.link ∧ (acceptRequest n k kind f s).lending = s.lending ∧
    (acceptRequest n k kind f s).loan = s.loan ∧ (acceptRequest n k kind f s).meter = s.meter ∧
    (acceptRequest n k kind f s).stages = s.stages ∧ (acceptRequest n k kind f s).dispatch = s.dispatch ∧
    (acceptRequest n k kind f s).lock = s.lock ∧ (acceptRequest n k kind f s).management = s.management ∧
    (acceptRequest n k kind f s).pending = s.pending ∧ (acceptRequest n k kind f s).draws = s.draws := by simp [acceptRequest]

@[simp] theorem arrive_frame (n : NodePort) (f : RequestFrame) (s : State) :
    (arrive n f s).lending = s.lending ∧ (arrive n f s).loan = s.loan ∧ (arrive n f s).meter = s.meter ∧
    (arrive n f s).stages = s.stages ∧ (arrive n f s).dispatch = s.dispatch ∧ (arrive n f s).lock = s.lock ∧
    (arrive n f s).management = s.management ∧ (arrive n f s).pending = s.pending ∧ (arrive n f s).draws = s.draws := by
  unfold arrive
  split
  · simp
  · split
    · simp
    · split
      · simp
      · split <;> simp

@[simp] theorem waitHead_frame (n : NodePort) (k : SlotIdx) (w : WaitFor) (s : State) :
    (waitHead n k w s).link = s.link ∧ (waitHead n k w s).lending = s.lending ∧ (waitHead n k w s).loan = s.loan ∧
    (waitHead n k w s).meter = s.meter ∧ (waitHead n k w s).stages = s.stages ∧
    (waitHead n k w s).dispatch = s.dispatch ∧ (waitHead n k w s).lock = s.lock ∧
    (waitHead n k w s).management = s.management ∧ (waitHead n k w s).pending = s.pending ∧
    (waitHead n k w s).draws = s.draws := by simp [waitHead]

@[simp] theorem refuseHead_frame (n : NodePort) (k : SlotIdx) (st : Status) (s : State) :
    (refuseHead n k st s).lending = s.lending ∧ (refuseHead n k st s).loan = s.loan ∧
    (refuseHead n k st s).meter = s.meter ∧ (refuseHead n k st s).stages = s.stages ∧
    (refuseHead n k st s).dispatch = s.dispatch ∧ (refuseHead n k st s).lock = s.lock ∧
    (refuseHead n k st s).management = s.management ∧ (refuseHead n k st s).pending = s.pending ∧
    (refuseHead n k st s).draws = s.draws := by simp [refuseHead]

@[simp] theorem admitSlot_frame (n : NodePort) (k : SlotIdx) (c : Nat) (s : State) :
    (admitSlot n k c s).link = s.link ∧ (admitSlot n k c s).lending = s.lending ∧ (admitSlot n k c s).loan = s.loan ∧
    (admitSlot n k c s).meter = s.meter ∧ (admitSlot n k c s).stages = s.stages ∧
    (admitSlot n k c s).dispatch = s.dispatch ∧ (admitSlot n k c s).lock = s.lock ∧
    (admitSlot n k c s).management = s.management ∧ (admitSlot n k c s).pending = s.pending ∧
    (admitSlot n k c s).draws = s.draws := by simp [admitSlot]

@[simp] theorem admitHead_frame (n : NodePort) (k : SlotIdx) (ps : List Piece) (s : State) :
    (admitHead n k ps s).loan = s.loan ∧ (admitHead n k ps s).pending = s.pending ∧
    (admitHead n k ps s).draws = s.draws := by simp [admitHead]

@[simp] theorem countRefusal_frame (kind : ReqKind) (st : Status) (n : NodePort) (v : Volume) (g : Nat) (s : State) :
    (countRefusal kind st n v g s).admission = s.admission ∧ (countRefusal kind st n v g s).lending = s.lending ∧
    (countRefusal kind st n v g s).loan = s.loan ∧ (countRefusal kind st n v g s).meter = s.meter ∧
    (countRefusal kind st n v g s).stages = s.stages ∧ (countRefusal kind st n v g s).dispatch = s.dispatch ∧
    (countRefusal kind st n v g s).pending = s.pending ∧ (countRefusal kind st n v g s).draws = s.draws := by
  unfold countRefusal
  split <;> simp

@[simp] theorem judgeHead_frame (n : NodePort) (k : SlotIdx) (s : State) :
    (judgeHead n k s).loan = s.loan ∧ (judgeHead n k s).pending = s.pending ∧ (judgeHead n k s).draws = s.draws := by
  have h := translateAll_frame (s.slot n k).kind (s.slot n k).volume (cutRequest (s.slot n k).offset (s.slot n k).length) s
  unfold judgeHead
  dsimp only
  split
  · simp
  · split
    · simp
    · split
      · simp
      · split
        · rename_i e; rw [e] at h; simp at h ⊢; simp [h]
        · rename_i e
          rw [e] at h
          split
          · simp at h ⊢; simp [h]
          · split <;> (simp at h ⊢; simp [h])

@[simp] theorem attempt_frame (n : NodePort) (s : State) :
    (attempt n s).loan = s.loan ∧ (attempt n s).pending = s.pending ∧ (attempt n s).draws = s.draws := by
  unfold attempt
  split <;> simp

@[simp] theorem takeAttempt_frame (n : NodePort) (s : State) :
    (takeAttempt n s).loan = s.loan ∧ (takeAttempt n s).pending = s.pending ∧ (takeAttempt n s).draws = s.draws := by
  unfold takeAttempt
  split <;> simp

@[simp] theorem serveNodes_frame (l : List NodePort) (s : State) :
    (serveNodes l s).loan = s.loan ∧ (serveNodes l s).pending = s.pending ∧ (serveNodes l s).draws = s.draws := by
  induction l generalizing s with
  | nil => simp [serveNodes]
  | cons n l ih =>
    unfold serveNodes
    split
    · simp
    · simp [ih]

@[simp] theorem takePass_frame (s : State) :
    (takePass s).loan = s.loan ∧ (takePass s).pending = s.pending ∧ (takePass s).draws = s.draws := by
  unfold takePass
  split <;> simp

end Sys2Proof.Machine
end

