-- ==== Sys2Proof/Laws/FrameDisks.lean ====
section
/-! SUPPORT. What the shared operations leave alone, block by block: replies and sends. -/

namespace Sys2Proof.Machine

@[simp] theorem helloFrom_frame (d : DiskPort) (c : Nat) (s : State) :
    (helloFrom d c s).admission = s.admission ∧ (helloFrom d c s).lending = s.lending ∧
    (helloFrom d c s).loan = s.loan ∧ (helloFrom d c s).meter = s.meter ∧ (helloFrom d c s).stages = s.stages ∧
    (helloFrom d c s).lock = s.lock ∧ (helloFrom d c s).pending = s.pending ∧ (helloFrom d c s).draws = s.draws := by
  unfold helloFrom
  dsimp only
  split <;> simp

@[simp] theorem returnToLane_frame (i : StageIdx) (s : State) :
    (returnToLane i s).link = s.link ∧ (returnToLane i s).admission = s.admission ∧
    (returnToLane i s).lending = s.lending ∧ (returnToLane i s).loan = s.loan ∧ (returnToLane i s).meter = s.meter ∧
    (returnToLane i s).lock = s.lock ∧ (returnToLane i s).management = s.management ∧
    (returnToLane i s).pending = s.pending ∧ (returnToLane i s).draws = s.draws := by simp [returnToLane]

@[simp] theorem returnToLanes_frame (l : List StageIdx) (s : State) :
    (l.foldl (fun s i => returnToLane i s) s).link = s.link ∧
    (l.foldl (fun s i => returnToLane i s) s).admission = s.admission ∧
    (l.foldl (fun s i => returnToLane i s) s).lending = s.lending ∧
    (l.foldl (fun s i => returnToLane i s) s).loan = s.loan ∧
    (l.foldl (fun s i => returnToLane i s) s).meter = s.meter ∧
    (l.foldl (fun s i => returnToLane i s) s).lock = s.lock ∧
    (l.foldl (fun s i => returnToLane i s) s).management = s.management ∧
    (l.foldl (fun s i => returnToLane i s) s).pending = s.pending ∧
    (l.foldl (fun s i => returnToLane i s) s).draws = s.draws := by
  refine ⟨?_, ?_, ?_, ?_, ?_, ?_, ?_, ?_, ?_⟩ <;> exact foldl_keeps _ _ (by simp) _ _

@[simp] theorem holdFrom_frame (d : DiskPort) (s : State) :
    (holdFrom d s).link = s.link ∧ (holdFrom d s).admission = s.admission ∧ (holdFrom d s).lending = s.lending ∧
    (holdFrom d s).loan = s.loan ∧ (holdFrom d s).meter = s.meter ∧ (holdFrom d s).lock = s.lock ∧
    (holdFrom d s).management = s.management ∧ (holdFrom d s).pending = s.pending ∧ (holdFrom d s).draws = s.draws := by
  unfold holdFrom
  split <;> simp [-List.foldl_reverse]

@[simp] theorem releaseFrom_frame (d : DiskPort) (s : State) :
    (releaseFrom d s).link = s.link ∧ (releaseFrom d s).admission = s.admission ∧
    (releaseFrom d s).lending = s.lending ∧ (releaseFrom d s).loan = s.loan ∧ (releaseFrom d s).meter = s.meter ∧
    (releaseFrom d s).stages = s.stages ∧ (releaseFrom d s).lock = s.lock ∧
    (releaseFrom d s).management = s.management ∧ (releaseFrom d s).pending = s.pending ∧
    (releaseFrom d s).draws = s.draws := by
  unfold releaseFrom
  split <;> simp

@[simp] theorem acceptFor_frame (i : StageIdx) (s : State) :
    (acceptFor i s).link = s.link ∧ (acceptFor i s).admission = s.admission ∧ (acceptFor i s).lending = s.lending ∧
    (acceptFor i s).loan = s.loan ∧ (acceptFor i s).meter = s.meter ∧ (acceptFor i s).dispatch = s.dispatch ∧
    (acceptFor i s).lock = s.lock ∧ (acceptFor i s).management = s.management ∧ (acceptFor i s).pending = s.pending ∧
    (acceptFor i s).draws = s.draws := by
  unfold acceptFor
  dsimp only
  split <;> simp

@[simp] theorem nakFor_frame (i : StageIdx) (s : State) :
    (nakFor i s).link = s.link ∧ (nakFor i s).admission = s.admission ∧ (nakFor i s).lending = s.lending ∧
    (nakFor i s).loan = s.loan ∧ (nakFor i s).meter = s.meter ∧ (nakFor i s).lock = s.lock ∧
    (nakFor i s).management = s.management ∧ (nakFor i s).pending = s.pending ∧ (nakFor i s).draws = s.draws := by
  unfold nakFor
  dsimp only
  split
  · split
    · simp
    · split <;> simp
  · split <;> simp
  · split <;> simp
  · simp

@[simp] theorem deliverTo_frame (w : Waiter) (b : BlockIdx) (x : Block) (s : State) :
    (deliverTo w b x s).admission = s.admission ∧ (deliverTo w b x s).lending = s.lending ∧
    (deliverTo w b x s).loan = s.loan ∧ (deliverTo w b x s).meter = s.meter ∧ (deliverTo w b x s).stages = s.stages ∧
    (deliverTo w b x s).dispatch = s.dispatch ∧ (deliverTo w b x s).lock = s.lock ∧
    (deliverTo w b x s).management = s.management ∧ (deliverTo w b x s).pending = s.pending ∧
    (deliverTo w b x s).draws = s.draws := by
  unfold deliverTo
  split <;> simp

@[simp] theorem deliverAll_frame (l : List Waiter) (b : BlockIdx) (x : Block) (s : State) :
    (l.foldl (fun s w => deliverTo w b x s) s).admission = s.admission ∧
    (l.foldl (fun s w => deliverTo w b x s) s).lending = s.lending ∧
    (l.foldl (fun s w => deliverTo w b x s) s).loan = s.loan ∧
    (l.foldl (fun s w => deliverTo w b x s) s).meter = s.meter ∧
    (l.foldl (fun s w => deliverTo w b x s) s).stages = s.stages ∧
    (l.foldl (fun s w => deliverTo w b x s) s).dispatch = s.dispatch ∧
    (l.foldl (fun s w => deliverTo w b x s) s).lock = s.lock ∧
    (l.foldl (fun s w => deliverTo w b x s) s).management = s.management ∧
    (l.foldl (fun s w => deliverTo w b x s) s).pending = s.pending ∧
    (l.foldl (fun s w => deliverTo w b x s) s).draws = s.draws := by
  refine ⟨?_, ?_, ?_, ?_, ?_, ?_, ?_, ?_, ?_, ?_⟩ <;> exact foldl_keeps _ _ (by simp) _ _

@[simp] theorem takeBlock_frame (i : StageIdx) (b : BlockIdx) (x : Block) (s : State) :
    (takeBlock i b x s).admission = s.admission ∧ (takeBlock i b x s).lending = s.lending ∧
    (takeBlock i b x s).loan = s.loan ∧ (takeBlock i b x s).meter = s.meter ∧
    (takeBlock i b x s).dispatch = s.dispatch ∧ (takeBlock i b x s).lock = s.lock ∧
    (takeBlock i b x s).management = s.management ∧ (takeBlock i b x s).pending = s.pending ∧
    (takeBlock i b x s).draws = s.draws := by simp [takeBlock]

@[simp] theorem dataFor_frame (x : Byte) (b : Block) (i : StageIdx) (s : State) :
    (dataFor x b i s).loan = s.loan ∧ (dataFor x b i s).meter = s.meter ∧ (dataFor x b i s).lock = s.lock ∧
    (dataFor x b i s).pending = s.pending ∧ (dataFor x b i s).draws = s.draws := by
  unfold dataFor
  dsimp only
  split <;> simp

@[simp] theorem doneOkFor_frame (i : StageIdx) (s : State) :
    (doneOkFor i s).loan = s.loan ∧ (doneOkFor i s).lock = s.lock ∧ (doneOkFor i s).pending = s.pending ∧
    (doneOkFor i s).draws = s.draws := by
  unfold doneOkFor
  split <;> simp

@[simp] theorem doneErrorFor_frame (i : StageIdx) (s : State) :
    (doneErrorFor i s).loan = s.loan ∧ (doneErrorFor i s).meter = s.meter ∧ (doneErrorFor i s).lock = s.lock ∧
    (doneErrorFor i s).pending = s.pending ∧ (doneErrorFor i s).draws = s.draws := by simp [doneErrorFor]

@[simp] theorem sendStage_frame (d : DiskPort) (i : StageIdx) (s : State) :
    (sendStage d i s).admission = s.admission ∧ (sendStage d i s).lending = s.lending ∧
    (sendStage d i s).loan = s.loan ∧ (sendStage d i s).meter = s.meter ∧ (sendStage d i s).lock = s.lock ∧
    (sendStage d i s).management = s.management ∧ (sendStage d i s).pending = s.pending ∧
    (sendStage d i s).draws = s.draws := by simp [sendStage]

@[simp] theorem sendTo_frame (d : DiskPort) (s : State) :
    (sendTo d s).admission = s.admission ∧ (sendTo d s).lending = s.lending ∧ (sendTo d s).loan = s.loan ∧
    (sendTo d s).meter = s.meter ∧ (sendTo d s).lock = s.lock ∧ (sendTo d s).management = s.management ∧
    (sendTo d s).pending = s.pending ∧ (sendTo d s).draws = s.draws := by
  unfold sendTo
  split <;> simp

@[simp] theorem timeOutStage_frame (i : StageIdx) (s : State) :
    (timeOutStage i s).loan = s.loan ∧ (timeOutStage i s).meter = s.meter ∧ (timeOutStage i s).lock = s.lock ∧
    (timeOutStage i s).pending = s.pending ∧ (timeOutStage i s).draws = s.draws := by simp [timeOutStage]

@[simp] theorem countStage_frame (i : StageIdx) (s : State) :
    (countStage i s).admission = s.admission ∧ (countStage i s).lending = s.lending ∧
    (countStage i s).loan = s.loan ∧ (countStage i s).meter = s.meter ∧ (countStage i s).dispatch = s.dispatch ∧
    (countStage i s).lock = s.lock ∧ (countStage i s).management = s.management ∧
    (countStage i s).pending = s.pending ∧ (countStage i s).draws = s.draws := by
  unfold countStage
  dsimp only
  split <;> simp

@[simp] theorem stageStep_frame (i : StageIdx) (s : State) :
    (stageStep i s).loan = s.loan ∧ (stageStep i s).meter = s.meter ∧ (stageStep i s).lock = s.lock ∧
    (stageStep i s).pending = s.pending ∧ (stageStep i s).draws = s.draws := by
  unfold stageStep
  split <;> simp

@[simp] theorem stageAtExpiry_frame (i : StageIdx) (s : State) :
    (stageAtExpiry i s).admission = s.admission ∧ (stageAtExpiry i s).lending = s.lending ∧
    (stageAtExpiry i s).loan = s.loan ∧ (stageAtExpiry i s).meter = s.meter ∧
    (stageAtExpiry i s).dispatch = s.dispatch ∧ (stageAtExpiry i s).lock = s.lock ∧
    (stageAtExpiry i s).management = s.management ∧ (stageAtExpiry i s).pending = s.pending ∧
    (stageAtExpiry i s).draws = s.draws := by
  unfold stageAtExpiry
  split <;> simp

end Sys2Proof.Machine
end

