-- ==== Sys2Proof/Laws/FrameClocks.lean ====
section
/-! SUPPORT. What the shared operations leave alone, block by block: the steps of the four clocks. -/

namespace Sys2Proof.Machine

@[simp] theorem silenceStep_frame (l : Link) (s : State) :
    (silenceStep l s).meter = s.meter ∧ (silenceStep l s).pending = s.pending := by
  cases l <;> unfold silenceStep <;> dsimp only <;> split
  · simp
  · split <;> simp
  · simp
  · split <;> simp

@[simp] theorem takeSilence_frame (l : Link) (s : State) :
    (takeSilence l s).meter = s.meter ∧ (takeSilence l s).pending = s.pending := by
  unfold takeSilence
  split <;> simp

@[simp] theorem takeSilenceNodes_frame (l : List NodePort) (s : State) :
    (l.foldl (fun s n => takeSilence (.node n) s) s).meter = s.meter ∧
    (l.foldl (fun s n => takeSilence (.node n) s) s).pending = s.pending := by
  refine ⟨?_, ?_⟩ <;> exact foldl_keeps _ _ (by simp) _ _

@[simp] theorem takeSilenceDisks_frame (l : List DiskPort) (s : State) :
    (l.foldl (fun s d => takeSilence (.disk d) s) s).meter = s.meter ∧
    (l.foldl (fun s d => takeSilence (.disk d) s) s).pending = s.pending := by
  refine ⟨?_, ?_⟩ <;> exact foldl_keeps _ _ (by simp) _ _

@[simp] theorem settlePort_frame (s : State) :
    (settlePort s).meter = s.meter ∧ (settlePort s).pending = s.pending := by simp [settlePort]

@[simp] theorem portExpiry_frame (s : State) :
    (portExpiry s).meter = s.meter ∧ (portExpiry s).pending = s.pending := by simp [portExpiry]

@[simp] theorem refillNodes_frame (l : List NodePort) (s : State) :
    (l.foldl (fun s n => refillNode n s) s).link = s.link ∧
    (l.foldl (fun s n => refillNode n s) s).lending = s.lending ∧
    (l.foldl (fun s n => refillNode n s) s).loan = s.loan ∧
    (l.foldl (fun s n => refillNode n s) s).stages = s.stages ∧
    (l.foldl (fun s n => refillNode n s) s).dispatch = s.dispatch ∧
    (l.foldl (fun s n => refillNode n s) s).lock = s.lock ∧
    (l.foldl (fun s n => refillNode n s) s).management = s.management ∧
    (l.foldl (fun s n => refillNode n s) s).pending = s.pending ∧
    (l.foldl (fun s n => refillNode n s) s).draws = s.draws := by
  refine ⟨?_, ?_, ?_, ?_, ?_, ?_, ?_, ?_, ?_⟩ <;> exact foldl_keeps _ _ (by simp) _ _

@[simp] theorem meterExpiry_frame (s : State) :
    (meterExpiry s).link = s.link ∧ (meterExpiry s).lending = s.lending ∧ (meterExpiry s).loan = s.loan ∧
    (meterExpiry s).stages = s.stages ∧ (meterExpiry s).dispatch = s.dispatch ∧ (meterExpiry s).lock = s.lock ∧
    (meterExpiry s).management = s.management ∧ (meterExpiry s).pending = s.pending ∧ (meterExpiry s).draws = s.draws := by simp [meterExpiry]

@[simp] theorem takeLoanStep_frame (i : LoanIdx) (s : State) :
    (takeLoanStep i s).meter = s.meter ∧ (takeLoanStep i s).pending = s.pending ∧ (takeLoanStep i s).draws = s.draws := by
  unfold takeLoanStep
  split <;> simp

@[simp] theorem takeDue_frame (i : LoanIdx) (s : State) :
    (takeDue i s).meter = s.meter ∧ (takeDue i s).pending = s.pending ∧ (takeDue i s).draws = s.draws := by
  unfold takeDue
  split <;> simp

@[simp] theorem takeLapse_frame (i : LoanIdx) (s : State) :
    (takeLapse i s).meter = s.meter ∧ (takeLapse i s).pending = s.pending ∧ (takeLapse i s).draws = s.draws := by
  unfold takeLapse
  split <;> simp

@[simp] theorem takeLockStep_frame (k : LockIdx) (s : State) :
    (takeLockStep k s).admission = s.admission ∧ (takeLockStep k s).lending = s.lending ∧
    (takeLockStep k s).loan = s.loan ∧ (takeLockStep k s).meter = s.meter ∧ (takeLockStep k s).stages = s.stages ∧
    (takeLockStep k s).dispatch = s.dispatch ∧ (takeLockStep k s).pending = s.pending ∧
    (takeLockStep k s).draws = s.draws := by
  unfold takeLockStep
  split <;> simp

@[simp] theorem takeTimer_frame (s : State) :
    (takeTimer s).admission = s.admission ∧ (takeTimer s).lending = s.lending ∧ (takeTimer s).loan = s.loan ∧
    (takeTimer s).meter = s.meter ∧ (takeTimer s).stages = s.stages ∧ (takeTimer s).dispatch = s.dispatch ∧
    (takeTimer s).pending = s.pending ∧ (takeTimer s).draws = s.draws := by
  unfold takeTimer
  split <;> simp

@[simp] theorem takeTally_frame (s : State) :
    (takeTally s).admission = s.admission ∧ (takeTally s).lending = s.lending ∧ (takeTally s).loan = s.loan ∧
    (takeTally s).stages = s.stages ∧ (takeTally s).dispatch = s.dispatch ∧ (takeTally s).lock = s.lock ∧
    (takeTally s).pending = s.pending ∧ (takeTally s).draws = s.draws := by
  unfold takeTally
  split <;> simp

@[simp] theorem takeLoanSteps_frame (l : List LoanIdx) (s : State) :
    (l.foldl (fun s i => takeLoanStep i s) s).meter = s.meter ∧
    (l.foldl (fun s i => takeLoanStep i s) s).pending = s.pending ∧
    (l.foldl (fun s i => takeLoanStep i s) s).draws = s.draws := by
  refine ⟨?_, ?_, ?_⟩ <;> exact foldl_keeps _ _ (by simp) _ _

@[simp] theorem takeLockSteps_frame (l : List LockIdx) (s : State) :
    (l.foldl (fun s k => takeLockStep k s) s).admission = s.admission ∧
    (l.foldl (fun s k => takeLockStep k s) s).lending = s.lending ∧
    (l.foldl (fun s k => takeLockStep k s) s).loan = s.loan ∧
    (l.foldl (fun s k => takeLockStep k s) s).meter = s.meter ∧
    (l.foldl (fun s k => takeLockStep k s) s).stages = s.stages ∧
    (l.foldl (fun s k => takeLockStep k s) s).dispatch = s.dispatch ∧
    (l.foldl (fun s k => takeLockStep k s) s).pending = s.pending ∧
    (l.foldl (fun s k => takeLockStep k s) s).draws = s.draws := by
  refine ⟨?_, ?_, ?_, ?_, ?_, ?_, ?_, ?_⟩ <;> exact foldl_keeps _ _ (by simp) _ _

@[simp] theorem settleLending_frame (s : State) :
    (settleLending s).pending = s.pending ∧ (settleLending s).draws = s.draws := by simp [settleLending]

@[simp] theorem countLending_frame (s : State) :
    (countLending s).link = s.link ∧ (countLending s).admission = s.admission ∧
    (countLending s).lending = s.lending ∧ (countLending s).stages = s.stages ∧
    (countLending s).dispatch = s.dispatch ∧ (countLending s).management = s.management ∧
    (countLending s).pending = s.pending ∧ (countLending s).draws = s.draws := by simp [countLending]

@[simp] theorem lendingExpiry_frame (s : State) :
    (lendingExpiry s).pending = s.pending ∧ (lendingExpiry s).draws = s.draws := by simp [lendingExpiry]

@[simp] theorem takeStageStep_frame (i : StageIdx) (s : State) :
    (takeStageStep i s).loan = s.loan ∧ (takeStageStep i s).meter = s.meter ∧ (takeStageStep i s).lock = s.lock ∧
    (takeStageStep i s).pending = s.pending ∧ (takeStageStep i s).draws = s.draws := by
  unfold takeStageStep
  split <;> simp

@[simp] theorem takeRetryTimeout_frame (i : StageIdx) (s : State) :
    (takeRetryTimeout i s).loan = s.loan ∧ (takeRetryTimeout i s).meter = s.meter ∧
    (takeRetryTimeout i s).lock = s.lock ∧ (takeRetryTimeout i s).pending = s.pending ∧
    (takeRetryTimeout i s).draws = s.draws := by
  unfold takeRetryTimeout
  split <;> simp

@[simp] theorem takeResponseTimeout_frame (i : StageIdx) (s : State) :
    (takeResponseTimeout i s).loan = s.loan ∧ (takeResponseTimeout i s).meter = s.meter ∧
    (takeResponseTimeout i s).lock = s.lock ∧ (takeResponseTimeout i s).pending = s.pending ∧
    (takeResponseTimeout i s).draws = s.draws := by
  unfold takeResponseTimeout
  split <;> simp

@[simp] theorem takeStageSteps_frame (l : List StageIdx) (s : State) :
    (l.foldl (fun s i => takeStageStep i s) s).loan = s.loan ∧
    (l.foldl (fun s i => takeStageStep i s) s).meter = s.meter ∧
    (l.foldl (fun s i => takeStageStep i s) s).lock = s.lock ∧
    (l.foldl (fun s i => takeStageStep i s) s).pending = s.pending ∧
    (l.foldl (fun s i => takeStageStep i s) s).draws = s.draws := by
  refine ⟨?_, ?_, ?_, ?_, ?_⟩ <;> exact foldl_keeps _ _ (by simp) _ _

@[simp] theorem settleDisk_frame (s : State) :
    (settleDisk s).loan = s.loan ∧ (settleDisk s).meter = s.meter ∧ (settleDisk s).lock = s.lock ∧
    (settleDisk s).pending = s.pending ∧ (settleDisk s).draws = s.draws := by simp [settleDisk]

@[simp] theorem stagesAtExpiry_frame (l : List StageIdx) (s : State) :
    (l.foldl (fun s i => stageAtExpiry i s) s).admission = s.admission ∧
    (l.foldl (fun s i => stageAtExpiry i s) s).lending = s.lending ∧
    (l.foldl (fun s i => stageAtExpiry i s) s).loan = s.loan ∧
    (l.foldl (fun s i => stageAtExpiry i s) s).meter = s.meter ∧
    (l.foldl (fun s i => stageAtExpiry i s) s).dispatch = s.dispatch ∧
    (l.foldl (fun s i => stageAtExpiry i s) s).lock = s.lock ∧
    (l.foldl (fun s i => stageAtExpiry i s) s).management = s.management ∧
    (l.foldl (fun s i => stageAtExpiry i s) s).pending = s.pending ∧
    (l.foldl (fun s i => stageAtExpiry i s) s).draws = s.draws := by
  refine ⟨?_, ?_, ?_, ?_, ?_, ?_, ?_, ?_, ?_⟩ <;> exact foldl_keeps _ _ (by simp) _ _

@[simp] theorem diskExpiry_frame (s : State) :
    (diskExpiry s).loan = s.loan ∧ (diskExpiry s).meter = s.meter ∧ (diskExpiry s).lock = s.lock ∧
    (diskExpiry s).pending = s.pending ∧ (diskExpiry s).draws = s.draws := by simp [diskExpiry]

end Sys2Proof.Machine
end

