-- ==== Sys2Proof/Laws/Table.lean ====
section
/-! SUPPORT. What the searches, counts and updates of a table answer, entry by entry. -/

namespace Sys2Proof.Machine

variable {α β : Type} {n : Nat}

@[simp] theorem tableMap_getElem (f : α → β) (v : Vector α n) (i : Nat) (h : i < n) : (tableMap f v)[i] = f v[i] := by
  simp [tableMap]

theorem tableFind_eq_some {v : Vector α n} {p : α → Bool} {i : Fin n} :
    tableFind v p = some i ↔ p v[i.val] = true ∧ ∀ j : Fin n, j < i → p v[j.val] = false := by
  constructor
  · intro h
    obtain ⟨k, hk, rfl⟩ := Option.map_eq_some_iff.mp h
    obtain ⟨h1, h2⟩ := List.findFinIdx?_eq_some_iff.mp hk
    refine ⟨by simpa using h1, fun j hj => ?_⟩
    have := h2 (Fin.cast (by simp) j) hj
    simpa using this
  · rintro ⟨h1, h2⟩
    refine Option.map_eq_some_iff.mpr ⟨Fin.cast (by simp) i, ?_, by ext; simp⟩
    refine List.findFinIdx?_eq_some_iff.mpr ⟨by simpa using h1, fun j hj => ?_⟩
    have := h2 (Fin.cast (by simp) j) hj
    simpa using this

theorem tableFind_eq_none {v : Vector α n} {p : α → Bool} :
    tableFind v p = none ↔ ∀ i : Fin n, p v[i.val] = false := by
  simp only [tableFind, Option.map_eq_none_iff, List.findFinIdx?_eq_none_iff]
  constructor
  · intro h i
    simpa using h v[i.val] (by simp)
  · intro h x hx
    obtain ⟨k, hk, rfl⟩ := List.getElem_of_mem hx
    simpa using h ⟨k, by simpa using hk⟩

theorem tableAny_iff {v : Vector α n} {p : α → Bool} :
    tableAny v p = true ↔ ∃ i : Fin n, p v[i.val] = true := by
  simp only [tableAny, List.any_eq_true]
  constructor
  · rintro ⟨x, hx, h⟩
    obtain ⟨k, hk, rfl⟩ := List.getElem_of_mem hx
    exact ⟨⟨k, by simpa using hk⟩, by simpa using h⟩
  · rintro ⟨i, h⟩
    exact ⟨v[i.val], by simp, h⟩

theorem mem_tableFilter {v : Vector α n} {p : α → Bool} {i : Fin n} :
    i ∈ tableFilter v p ↔ p v[i.val] = true := by
  simp only [tableFilter, List.mem_filterMap, Prod.exists, List.mem_zipIdx_iff_getElem?]
  constructor
  · rintro ⟨x, k, hx, h⟩
    split at h
    · split at h
      · cases h
        simp only [Vector.getElem?_toList] at hx
        rw [Vector.getElem?_eq_some_iff] at hx
        obtain ⟨_, rfl⟩ := hx
        assumption
      · cases h
    · cases h
  · intro h
    exact ⟨v[i.val], i.val, by simp, by simp [h]⟩

/-- The entries with a property are listed in ascending order. -/
theorem tableFilter_eq_filter (v : Vector α n) (p : α → Bool) :
    tableFilter v p = (List.finRange n).filter fun i => p v[i.val] := by
  have hz : v.toList.zipIdx = (List.finRange n).map fun i => (v[i.val], i.val) := by
    apply List.ext_getElem
    · simp
    · intro i h1 h2
      simp
  rw [tableFilter, hz, List.filterMap_map]
  induction List.finRange n with
  | nil => rfl
  | cons i l ih =>
    rw [List.filterMap_cons, List.filter_cons, ih]
    cases h : p v[i.val] <;> simp [h]

/-- What a write of one entry makes of a count. -/
theorem tableCount_set (v : Vector α n) (p : α → Bool) (i : Fin n) (x : α) :
    tableCount (v.set i.val x) p + (if p v[i.val] then 1 else 0) = tableCount v p + (if p x then 1 else 0) := by
  have hi : i.val < v.toList.length := by simp
  have h := List.countP_set (p := p) (l := v.toList) (i := i.val) (a := x) hi
  simp only [tableCount, Vector.toList_set, h, Vector.getElem_toList]
  by_cases hp : p v[i.val] = true
  · have : 0 < v.toList.countP p := List.countP_pos_iff.mpr ⟨v[i.val], by simp, hp⟩
    simp only [hp, if_true]
    omega
  · simp only [hp]
    simp

end Sys2Proof.Machine
end

