-- ==== Sys2Proof/Laws/Effects.lean ====
section
/-! SUPPORT. What each shared operation can do, said once: the cases of its outcome. -/

namespace Sys2Proof.Machine

/-! ## Frames and flags -/

theorem produceNode_up {n : NodePort} {s : State} (h : (s.node n).state = .up) (f : NodeFrame) :
    produceNode n f s = s.setNode n { s.node n with out := (s.node n).out ++ [f], produced := true } := by
  simp [produceNode, h]

theorem produceNode_down {n : NodePort} {s : State} (h : (s.node n).state = .down) (f : NodeFrame) :
    produceNode n f s = s.setNode n { s.node n with produced := true } := by simp [produceNode, h]

/-- Every node link after a frame was produced for one of them. -/
theorem produceNode_node (n m : NodePort) (f : NodeFrame) (s : State) :
    (produceNode n f s).node m =
      if m = n then
        { s.node n with out := (s.node n).out ++ (if (s.node n).state = .up then [f] else []), produced := true }
      else s.node m := by
  cases h : (s.node n).state with
  | up => rw [produceNode_up h, State.setNode_node_eq]; simp
  | down => rw [produceNode_down h, State.setNode_node_eq]; simp

/-- A raise sets a flag with its detail; the frames follow only where the flag was clear and its mask is enabled. -/
theorem raiseFlag_cases (f : Flag) (x : Nat) (s : State) :
    (s.flagSet f = true ∧ raiseFlag f x s = recordDetail f x s) ∨
      (s.flagSet f = false ∧ s.maskOn f = true ∧ raiseFlag f x s = noticeAll f (setFlag f (recordDetail f x s))) ∨
      s.flagSet f = false ∧ s.maskOn f = false ∧ raiseFlag f x s = setFlag f (recordDetail f x s) := by
  have h1 : (recordDetail f x s).flagSet f = s.flagSet f := by cases f <;> rfl
  have h2 : (recordDetail f x s).maskOn f = s.maskOn f := by cases f <;> rfl
  unfold raiseFlag
  dsimp only
  rw [h1, h2]
  cases s.flagSet f <;> cases s.maskOn f <;> simp

/-- One NOTICE goes to an UP manager port and to no other. -/
theorem noticeTo_node (f : Flag) (n m : NodePort) (s : State) :
    (noticeTo f n s).node m =
      if m = n ∧ (s.node n).state = .up ∧ (s.node n).manager = true then
        { s.node n with out := (s.node n).out ++ [.notice f (s.detailOf f) s.management.flags], produced := true }
      else s.node m := by
  unfold noticeTo
  by_cases h : (s.node n).state = .up ∧ (s.node n).manager = true
  · rw [if_pos h, produceNode_node]
    by_cases hm : m = n <;> simp [hm, h.1, h.2]
  · rw [if_neg h, if_neg (fun x => h x.2)]

theorem goodNodeFrame_up {n : NodePort} {s : State} (h : (s.node n).state = .up) :
    goodNodeFrame n s = s.setNode n { s.node n with silence := 0 } := by
  have e : { s.node n with silence := 0, state := PortState.up } = { s.node n with silence := 0 } := by rw [← h]
  unfold goodNodeFrame
  dsimp only
  split
  · next h' => rw [h] at h'; cases h'
  · rw [e]

theorem goodNodeFrame_down {n : NodePort} {s : State} (h : (s.node n).state = .down) :
    goodNodeFrame n s = raiseFlag (.nodeUp n) 0 (s.setNode n { s.node n with silence := 0, state := .up }) := by
  simp only [goodNodeFrame, h]

/-! ## Map reads -/

/-- A read of an entry by what its check code finds. -/
theorem readMapEntry_cases (i : MapIdx) (s : State) :
    ((s.mapEntry i).condition = .intact ∧
        readMapEntry i s = s.setMapEntry i { s.mapEntry i with outcome := .clean }) ∨
      (∃ original, (s.mapEntry i).condition = .recoverable original ∧
        readMapEntry i s = raiseFlag .mapCorrected i.val
          (s.setMapEntry i { stored := original, condition := .intact, outcome := .corrected })) ∨
      (s.mapEntry i).condition = .lost ∧
        readMapEntry i s = s.setMapEntry i { s.mapEntry i with outcome := .uncorrectable } := by
  cases h : (s.mapEntry i).condition with
  | intact => exact .inl ⟨rfl, by simp [readMapEntry, MapEntry.yields, MapEntry.afterRead, h]⟩
  | recoverable original =>
    exact .inr (.inl ⟨original, rfl, by simp [readMapEntry, MapEntry.yields, MapEntry.afterRead, h]⟩)
  | lost => exact .inr (.inr ⟨rfl, by simp [readMapEntry, MapEntry.yields, MapEntry.afterRead, h]⟩)

/-! ## Stages -/

/-- A new stage takes the lowest FREE entry, and the tails of the order of creation and of its lane. -/
theorem newStage_of_free {s : State} {i : StageIdx} (hi : (s.stage i).state = .free)
    (hj : ∀ j, j < i → (s.stage j).state ≠ .free) (kind : StageKind) (p : Piece) (c : Class) (w : List Waiter)
    (o : Option Owner) (data : List Block) :
    newStage kind p c w o data s =
      laneTail p.disk c i
        { s.setStage i ((s.stage i).created i kind p c w o data) with
          stages :=
            { (s.setStage i ((s.stage i).created i kind p c w o data)).stages with
              order := s.stages.order ++ [i] } } := by
  have h : tableFind s.stages.table (·.state == .free) = some i :=
    tableFind_eq_some.mpr
      ⟨by simpa [State.stage] using hi, fun j hlt => by simpa [State.stage] using hj j hlt⟩
  simp [newStage, h]

/-- A freed stage: its entry FREE, and gone from its chain and from the lanes of its disk. -/
theorem freeStage_eq (i : StageIdx) (s : State) :
    (freeStage i s).stages.table = s.stages.table.set i.val (s.stage i).freed ∧
      (freeStage i s).stages.order = s.stages.order.filter (· != i) ∧
      (freeStage i s).disk (s.stage i).disk =
        { s.disk (s.stage i).disk with
          lanes := tableMap (fun l => l.filter (· != i)) (s.disk (s.stage i).disk).lanes } ∧
      ∀ e, e ≠ (s.stage i).disk → (freeStage i s).disk e = s.disk e := by
  refine ⟨rfl, rfl, ?_, ?_⟩
  · simp [freeStage, leaveLanes, State.disk, State.setDisk, State.setStage]
  · intro e he
    unfold freeStage leaveLanes
    dsimp only
    rw [State.setDisk_disk_ne _ _ _ _ he]
    rfl

theorem owePass_cases (before s : State) :
    (before.freeStages < s.freeStages ∧
        owePass before s = { s with stages := { s.stages with passesDue := s.stages.passesDue + 1 } }) ∨
      s.freeStages ≤ before.freeStages ∧ owePass before s = s := by
  unfold owePass
  split
  · exact .inl ⟨‹_›, rfl⟩
  · exact .inr ⟨by omega, rfl⟩

theorem Stage.freed_eq_emptied (st : Stage) : st.freed = st.emptied := rfl

theorem State.onStages_iff {s : State} {gone : StageIdx → Bool} {n : NodePort} {k : SlotIdx} :
    s.onStages gone n k = true ↔ ∃ i, gone i = true ∧ (s.stage i).serves n k = true := by
  simp [State.onStages, List.any_eq_true]

/-- The requests on one stage alone. -/
@[simp] theorem State.onStages_beq (s : State) (i : StageIdx) (n : NodePort) (k : SlotIdx) :
    s.onStages (· == i) n k = (s.stage i).serves n k := by
  rw [Bool.eq_iff_iff, State.onStages_iff]
  simp

/-- What becomes of a stage whose last piece has been withdrawn (R124, R125). -/
theorem settleStage_cases (i : StageIdx) (s : State) :
    settleStage i s = s ∨ ((s.stage i).state = .queued ∨ (s.stage i).state = .retrying) ∧ settleStage i s = freeStage i s ∨
      (s.stage i).atDisk = true ∧ settleStage i s = s.setStage i { s.stage i with abandoned := true } := by
  unfold settleStage
  dsimp only
  split
  · cases h : (s.stage i).state <;> simp [Stage.atDisk, h]
  · exact .inl rfl

/-! ## Requests -/

/-- After an event at a wait list: no attempt is owed for an empty list, one more where the head is new. -/
theorem noteHead_cases (n : NodePort) (before s : State) :
    (s.headOf n = none ∧ noteHead n before s = s.setDesk n { s.desk n with attemptsDue := 0 }) ∨
      (∃ k, s.headOf n = some k ∧ before.headOf n = some k ∧ noteHead n before s = s) ∨
      ∃ k, s.headOf n = some k ∧ before.headOf n ≠ some k ∧ noteHead n before s = startAttempt n s := by
  unfold noteHead
  cases h : s.headOf n with
  | none => exact .inl ⟨rfl, rfl⟩
  | some k =>
    by_cases hb : before.headOf n = some k
    · exact .inr (.inl ⟨k, rfl, hb, by simp [hb]⟩)
    · exact .inr (.inr ⟨k, rfl, hb, by simp [hb]⟩)

/-- The outcomes of an attempt for a head (R74): it waits, it is refused, or it is admitted. -/
theorem judgeHead_cases (n : NodePort) (k : SlotIdx) (s : State) :
    judgeHead n k s = waitHead n k .credit s ∨
      (∃ status s', judgeHead n k s = refuseHead n k status s') ∨
      (∃ s', judgeHead n k s = waitHead n k .stages s') ∨ ∃ s' ps, judgeHead n k s = admitHead n k ps s' := by
  unfold judgeHead
  dsimp only
  split
  · exact .inl rfl
  split
  · exact .inr (.inl ⟨_, _, rfl⟩)
  split
  · exact .inr (.inl ⟨_, _, rfl⟩)
  split
  · exact .inr (.inl ⟨_, _, rfl⟩)
  split
  · exact .inr (.inl ⟨_, _, rfl⟩)
  split
  · exact .inr (.inr (.inl ⟨_, rfl⟩))
  · exact .inr (.inr (.inr ⟨_, _, rfl⟩))

/-! ## Steps that an expiry left owed, judged by the settings it read -/

/-- The step of a HELD lock breaks it at the limit its expiry read, and else counts. -/
theorem lockStep_held {k : LockIdx} {s : State} (h : (s.lockAt k).state = .held) :
    lockStep k s =
      if s.lock.limitRead ≤ (s.lockAt k).age + 1 then
        raiseFlag .lockBroken 0
          (s.setLock k { s.lockAt k with state := .free, age := (s.lockAt k).age + 1, owed := false })
      else s.setLock k { s.lockAt k with age := (s.lockAt k).age + 1, owed := false } := by
  simp [lockStep, h]

/-- The step of an UP node link takes it DOWN at the limit its expiry read, and else counts. -/
theorem silenceStep_node_up {n : NodePort} {s : State} (h : (s.node n).state = .up) :
    silenceStep (.node n) s =
      if s.link.limitRead ≤ (s.node n).silence + 1 then departure n s
      else s.setNode n { s.node n with silence := (s.node n).silence + 1, owed := false } := by
  simp [silenceStep, linkDown, h]

/-- The step of an UP disk link takes it DOWN at the limit its expiry read, and else counts. -/
theorem silenceStep_disk_up {d : DiskPort} {s : State} (h : (s.diskLink d).state = .up) :
    silenceStep (.disk d) s =
      if s.link.limitRead ≤ (s.diskLink d).silence + 1 then diskLoss d (diskLinkDown d [] s)
      else s.setDiskLink d { s.diskLink d with silence := (s.diskLink d).silence + 1, owed := false } := by
  simp [silenceStep, linkDown, h]

/-! ## Attempts, passes and ended slots in the words of statements -/

/-- The slot that a request leaves is the slot that ended. -/
theorem Slot.freed_eq_ended (sl : Slot) : sl.freed = sl.ended := rfl

/-- An attempt that is owed is taken. -/
theorem takeAttempt_owed {n : NodePort} {s : State} (h : (s.desk n).attemptsDue ≠ 0) :
    takeAttempt n s = attempt n (attempted n s) := by
  simp [takeAttempt, attempted, h]

/-- A pass serves a prefix of its nodes, one attempt for each, until the list ends or no stage is FREE. -/
theorem serveNodes_prefix (ns : List NodePort) (s : State) :
    ∃ served rest, ns = served ++ rest ∧
      serveNodes ns s =
        served.foldl (fun u n => attempt n { u with stages := { u.stages with lastServed := n } }) s ∧
      (rest = [] ∨ (serveNodes ns s).freeStages = 0) := by
  induction ns generalizing s with
  | nil => exact ⟨[], [], rfl, rfl, .inl rfl⟩
  | cons n ns ih =>
    by_cases h : s.freeStages = 0
    · exact ⟨[], n :: ns, rfl, by simp [serveNodes, h], .inr (by simp [serveNodes, h])⟩
    · obtain ⟨served, rest, e, hs, hr⟩ := ih (attempt n { s with stages := { s.stages with lastServed := n } })
      exact ⟨n :: served, rest, by simp [e], by simp [serveNodes, h, hs], by simpa [serveNodes, h] using hr⟩

/-- A head that passes every question reaches its translation. -/
theorem HeadPasses.reaches {s s' : State} {n : NodePort} {k : SlotIdx} {ps : List Piece} (h : HeadPasses s n k s' ps) :
    HeadReaches s n k ∧ s.translated n k = (s', .ok ps) :=
  ⟨⟨h.head, h.credit, h.loan, h.volume⟩, h.translated⟩

/-! ## Management -/

/-- A MANAGE frame from an UP manager port is served and answered. -/
theorem manage_served {h : ManageHeader} {s : State} (hu : (s.node h.port).state = .up)
    (hm : (s.node h.port).manager = true) (operation table : Byte) (index : BitVec 16) (serve : State → Served) :
    manage h operation table index serve s = replyTo h operation table (serve (takeManage h s)) := by
  have e : ((takeManage h s).node h.port).manager = true := by
    unfold takeManage
    split
    · exact hm
    · rw [goodNodeFrame_up hu]; simpa using hm
  simp [manage, e]

/-- From an UP port without the attribute it is refused (check 1 of R171). -/
theorem manage_refused {h : ManageHeader} {s : State} (hu : (s.node h.port).state = .up)
    (hm : (s.node h.port).manager = false) (operation table : Byte) (index : BitVec 16) (serve : State → Served) :
    manage h operation table index serve s =
      replyTo h operation table { state := takeManage h s, status := .notPermitted, index := index, image := [] } := by
  have e : ((takeManage h s).node h.port).manager = false := by
    unfold takeManage
    split
    · exact hm
    · rw [goodNodeFrame_up hu]; simpa using hm
  simp [manage, e]

/-! ## Commands one after the other, and bytes -/

theorem runAll_cons {c : Instr} {s t : State} (h : exec c s = .next t) (cs : List Instr) :
    runAll (c :: cs) s = runAll cs t := by
  simp [runAll, h]

/-- What a list of commands answers is what its second part answers after the first. -/
theorem runAll_append {s t : State} {cs : List Instr} (h : runAll cs s = .next t) (ds : List Instr) :
    runAll (cs ++ ds) s = runAll ds t := by
  induction cs generalizing s with
  | nil => cases h; rfl
  | cons c cs ih =>
    cases hc : exec c s with
    | next u =>
      rw [runAll_cons hc] at h
      rw [List.cons_append, runAll_cons hc]
      exact ih h
    | fault r => simp [runAll, hc] at h
    | refused r => simp [runAll, hc] at h

@[simp] theorem beBytes_length (w v : Nat) : (beBytes w v).length = w := by
  induction w generalizing v with
  | zero => rfl
  | succ w ih => simp [beBytes, ih]

end Sys2Proof.Machine
end

