-- ==== Sys2Proof/Laws/Reset.lean ====
section
/-! SUPPORT. The records of the part right after power-on. -/

namespace Sys2Proof.Machine

theorem reset_node (n : NodePort) : State.reset.node n = NodeLink.reset (decide (n = 0)) := by
  by_cases h : n = 0
  · subst h; simp [State.node, State.reset]
  · have : (0 : Nat) ≠ n.val := fun e => h (Fin.ext e.symm)
    simp [State.node, State.reset, h, this]

@[simp] theorem reset_diskLink (d : DiskPort) : State.reset.diskLink d = DiskLink.reset := by
  simp [State.diskLink, State.reset]
@[simp] theorem reset_desk (n : NodePort) : State.reset.desk n = Desk.reset := by simp [State.desk, State.reset]
@[simp] theorem reset_slot (n : NodePort) (k : SlotIdx) : State.reset.slot n k = Slot.reset := by
  simp [State.slot, Desk.reset]
@[simp] theorem reset_volume (v : Volume) : State.reset.volume v = VolumeEntry.reset := by
  simp [State.volume, State.reset]
@[simp] theorem reset_mapEntry (i : MapIdx) : State.reset.mapEntry i = MapEntry.reset := by
  simp [State.mapEntry, State.reset]
@[simp] theorem reset_loanAt (i : LoanIdx) : State.reset.loanAt i = Loan.reset := by simp [State.loanAt, State.reset]
@[simp] theorem reset_meterOf (n : NodePort) : State.reset.meterOf n = Meter.reset := by
  simp [State.meterOf, State.reset]
@[simp] theorem reset_tallyOf (n : NodePort) : State.reset.tallyOf n = Tally.reset := by
  simp [State.tallyOf, State.reset]
@[simp] theorem reset_stage (i : StageIdx) : State.reset.stage i = Stage.reset := by simp [State.stage, State.reset]
@[simp] theorem reset_disk (d : DiskPort) : State.reset.disk d = DiskRecord.reset := by simp [State.disk, State.reset]
@[simp] theorem reset_lockAt (k : LockIdx) : State.reset.lockAt k = Lock.reset := by simp [State.lockAt, State.reset]
@[simp] theorem reset_retryCount (n : NodePort) : State.reset.retryCount n = 0 := by
  simp [State.retryCount, State.reset]

end Sys2Proof.Machine
end

