-- ==== Sys2Proof/Tests/Slice0.lean ====
section
/-! SUPPORT. Tests: ill-formed commands, frames written out from the layouts, the manual's worked examples, and for each
statement that has hypotheses a state and operands that meet them. -/

namespace Sys2Proof.Tests

open Sys2Proof.Machine

-- One test at a time: the kernel's evaluations take a thread each.
set_option Elab.async false

/-! ## Ill-formed commands are refused by the check -/

theorem test_request_with_a_whole_partial_block_is_ill_formed :
    (Instr.request 0
      { kind := 1, tag := 1, volume := 0, hint := 0, length := 1, offset := 0, blocks := [], partialBytes := 4096 }).wellFormed
      = false := by decide
theorem test_done_error_with_result_zero_is_ill_formed : (Instr.diskDoneError 0 0 1).wellFormed = false := by decide
theorem test_servable_frame_is_no_unknown_operation :
    (Instr.manageUnknownOperation { port := 0, tag := 1, handedOn := false } 7 []).wellFormed = false := by decide
theorem test_unknown_operation_is_well_formed :
    (Instr.manageUnknownOperation { port := 0, tag := 1, handedOn := false } 9 []).wellFormed = true := by decide

/-! ## Frames, byte by byte from 10.1 to 10.5 -/

/-- The check of the ASCII digits 1 to 9 under R188's polynomial, register and bit orders is CBF43926h. -/
theorem test_frame_check : frameCheck [0x31, 0x32, 0x33, 0x34, 0x35, 0x36, 0x37, 0x38, 0x39] = 0xCBF43926 := by
  decide +kernel
theorem test_short_bytes_are_damaged : commandOfFrame (.node 3) [0x20, 0, 0] = .damagedFrame (.node 3) := by decide
theorem test_idle_frame : nodeCommand 31 [0x20] = .idle 31 := by decide
theorem test_unknown_node_kind : nodeCommand 1 [0x24, 0, 0] = .unknownKindFrame (.node 1) := by decide
theorem test_short_renew : nodeCommand 1 [0x22] = .unknownKindFrame (.node 1) := by decide
theorem test_renew_frame : nodeCommand 1 [0x22, 0xC8, 0xFF] = .renew 1 200 := by decide
theorem test_request_frame :
    nodeCommand 2 [0x21, 0x02, 0x12, 0x34, 0x3C, 0x07, 0x08, 0xEE, 0x00, 0x00, 0x1C, 0x20] =
      .request 2
        { kind := 2, tag := 0x1234, volume := 60, hint := 7, length := 8, offset := 7200, blocks := [],
          partialBytes := 0 } := by decide
theorem test_read_entry_frame :
    nodeCommand 0 [0x23, 0x01, 0x00, 0x09, 0x04, 0x00, 0x0F, 0xFF] =
      .readEntryMap { port := 0, tag := 9, handedOn := false } 4095 := by decide
theorem test_write_entry_frame :
    nodeCommand 0 [0x23, 0x02, 0x00, 0x09, 0x06, 0x00, 0x00, 0x07, 0x03] =
      .writeEntryClassmap { port := 0, tag := 9, handedOn := false } 7 [3] := by decide
theorem test_grant_frame :
    nodeCommand 0 [0x23, 0x03, 0x01, 0x02, 0x21, 0x0C, 0x01, 0x00, 0x00, 0x0A] =
      .grantLoan { port := 0, tag := 0x102, handedOn := false } 33 12 1 10 := by decide
theorem test_restart_port_frame :
    nodeCommand 0 [0x23, 0x08, 0x01, 0x02, 0x01, 0x0F] =
      .restartPortDisk { port := 0, tag := 0x102, handedOn := false } 15 := by decide
theorem test_unknown_port_kind_frame :
    nodeCommand 0 [0x23, 0x08, 0x01, 0x02, 0x02, 0x0F] =
      .manageUnknownOperation { port := 0, tag := 0x102, handedOn := false } 8 [0x02, 0x0F] := by decide
theorem test_hello_frame : diskCommand 5 [0x61, 0, 0, 0, 0x00, 0x01, 0x00, 0x02] = .hello 5 65538 := by decide
theorem test_accept_frame : diskCommand 5 [0x62, 0, 0x01, 0x46] = .accept 5 326 := by decide
theorem test_done_frames :
    diskCommand 5 [0x65, 0, 0x01, 0x46] = .diskDoneOk 5 326 ∧
      diskCommand 5 [0x65, 4, 0x01, 0x46] = .diskDoneError 5 4 326 := by decide
theorem test_hold_and_release_frames : diskCommand 0 [0x66] = .hold 0 ∧ diskCommand 0 [0x67] = .release 0 := by decide
theorem test_done_frame_body :
    (NodeFrame.done 501 .loanLapsed 8).body = [0x32, 0x0B, 0x01, 0xF5, 0x08, 0, 0, 0] := by decide
theorem test_loan_notice_frame_body :
    (NodeFrame.loanNotice 33 .due (some { index := 258, mode := .write, term := 10, age := 5 })).body =
        [0x33, 0x01, 0x21, 0x01, 0x01, 0x02, 0x00, 0x0A, 0x00, 0x05] ∧
      (NodeFrame.loanNotice 33 .none none).body = [0x33, 0x05, 0x21, 0, 0, 0, 0, 0, 0, 0] := by decide
theorem test_manage_reply_frame_body :
    (NodeFrame.manageReply 0x102 3 .tableFull 0 0 []).body = [0x34, 0x03, 0x01, 0x02, 0x08, 0, 0, 0] := by decide
theorem test_store_frame_head :
    (DiskFrame.store 326 20004 5 3 []).body = [0x52, 0x05, 0x01, 0x46, 0x00, 0x00, 0x4E, 0x24, 0x03, 0, 0, 0] := by
  decide
theorem test_fetch_frame_body :
    (DiskFrame.fetch 326 20004 5).body = [0x51, 0x05, 0x01, 0x46, 0x00, 0x00, 0x4E, 0x24] := by decide

/-! ## Worked examples of the manual -/

/-- Map entry 41 of 1.4 and 11.1. -/
def entry41 : Extent :=
  { valid := true, volume := 7, base := 1000, length := 4096, unit := 4, width := 3,
    disks := #v[2, 5, 9, 0, 0, 0, 0, 0], diskBase := 20000 }

/-- 11.1: granule 1016 lies on disk 5 at disk granule 20004. -/
theorem test_striping_of_granule_1016 : entry41.diskOf 1016 = 5 ∧ entry41.diskGranuleOf 1016 = 20004 := by decide
/-- 11.2: granules 1100 to 1102 lie on disk 5 at 20032 to 20034. -/
theorem test_striping_of_granules_1100_to_1102 :
    [1100, 1101, 1102].map entry41.diskOf = [5, 5, 5] ∧
      [1100, 1101, 1102].map entry41.diskGranuleOf = [20032, 20033, 20034] := by decide
/-- 11.2: a READ at offset 8800 of 24 blocks has the pieces 1100, 1101 and 1102, whole. -/
theorem test_cut_at_8800 :
    cutRequest 8800 24 =
      [{ granule := 1100, first := 0, count := 8 }, { granule := 1101, first := 0, count := 8 },
       { granule := 1102, first := 0, count := 8 }] := by decide
/-- 11.1: a READ at offset 8130 of 2 blocks takes indexes 2 and 3 of granule 1016. -/
theorem test_cut_at_8130 : cutRequest 8130 2 = [{ granule := 1016, first := 2, count := 2 }] := by decide
/-- R11: a request of 64 blocks that starts inside a granule has 9 pieces. -/
theorem test_cut_into_nine : (cutRequest 1 64).length = 9 := by decide
/-- 1.5: the last granule of the extent is on disk 2 at disk granule 21367. -/
theorem test_striping_of_the_last_granule : entry41.diskOf 5095 = 2 ∧ entry41.diskGranuleOf 5095 = 21367 := by decide
/-- 1.5: a READ at offset 8093 of 20 blocks. -/
theorem test_cut_at_8093 :
    cutRequest 8093 20 =
      [{ granule := 1011, first := 5, count := 3 }, { granule := 1012, first := 0, count := 8 },
       { granule := 1013, first := 0, count := 8 }, { granule := 1014, first := 0, count := 1 }] := by decide
/-- 5.4: the fourth refill of I = 12, F = 5 adds 13, the fifth 12. -/
theorem test_refills_of_the_worked_spread :
    ({ whole := 12, fraction := 5, burst := 1024, credit := 36, spread := 3 } : Meter).refill =
        { whole := 12, fraction := 5, burst := 1024, credit := 49, spread := 4 } ∧
      ({ whole := 12, fraction := 5, burst := 1024, credit := 49, spread := 4 } : Meter).refill =
        { whole := 12, fraction := 5, burst := 1024, credit := 61, spread := 5 } := by decide
/-- 5.4: B = 64 cuts the refill of 64 + 12. -/
theorem test_refill_is_capped :
    ({ whole := 12, fraction := 5, burst := 64, credit := 64, spread := 0 } : Meter).refill =
      { whole := 12, fraction := 5, burst := 64, credit := 64, spread := 1 } := by decide
/-- 5.5: cumulative counters wrap at 2^48, period counters stay at 2^32 - 1. -/
theorem test_tally_wraps_and_saturates :
    let t := { Tally.reset with cumRead := 2 ^ 48 - 1, perRead := 2 ^ 32 - 1 }
    (t.add false 8).cumRead = 7 ∧ (t.add false 8).perRead = 2 ^ 32 - 1 ∧ (t.add true 8).cumRead = 2 ^ 48 - 1 := by decide
/-- 9.1: 51 masks are enabled at power-on, NODE_DOWN, DISK_DOWN, MAP_FAULT, MAP_LOSS and LOCK_BROKEN among them. -/
theorem test_masks_at_power_on :
    masksReset.getLsbD (Flag.number (.nodeDown 31)) = true ∧ masksReset.getLsbD (Flag.number (.nodeUp 31)) = false ∧
      masksReset.getLsbD (Flag.number (.diskDown 0)) = true ∧ masksReset.getLsbD (Flag.number (.diskTimeout 0)) = false ∧
      masksReset.getLsbD (Flag.number .mapFault) = true ∧ masksReset.getLsbD (Flag.number .mapCorrected) = false ∧
      masksReset.getLsbD (Flag.number .lockBroken) = true ∧ masksReset.getLsbD (Flag.number .lockout) = false := by
  decide +kernel

/-! ## Small states -/

/-- Power-on with manager port 0 UP, at the last count before the silence limit, its step owed. -/
def upState : State :=
  State.reset.setNode 0 { NodeLink.reset true with state := .up, silence := 49, owed := true, out := [.idle] }

/-- A manager's header on port 0. -/
def fromPort0 : ManageHeader := { port := 0, tag := 9, handedOn := false }

theorem upState_managed : upState.managedBy fromPort0 := by
  simp [State.managedBy, upState, fromPort0, NodeLink.reset]

/-! ## Witnesses: a state and operands that meet the hypotheses of each statement -/

/-! ### Laws of every step -/

theorem witness_EveryStepKeepsAManagerPort :
    ∃ s t : State, s.ManagerLaw ∧ step s = .next t :=
  ⟨{ upState with pending := [.idle 0] }, _, ⟨0, by decide⟩, rfl⟩

theorem witness_EveryStepKeepsCreditWithinBurst : ∃ s t : State, s.CreditLaw ∧ step s = .next t := by
  refine ⟨{ upState with pending := [.meterClockExpiry] }, _, fun n => ?_, rfl⟩
  show (State.reset.meterOf n).credit ≤ (State.reset.meterOf n).burst
  simp [Meter.reset]

/-- One WRITE loan in force, at the last entry. -/
def loanState : State :=
  upState.setLoan 511
    { state := .active, volume := 33, node := 12, mode := .write, term := 10, age := 4, owed := true }

theorem witness_EveryStepKeepsLoanLaws :
    ∃ s t : State, s.LoanPairLaw ∧ s.LoanModeLaw ∧ step s = .next t := by
  refine ⟨{ loanState with pending := [.lapse 511] }, _, fun i j => ?_, fun i j => ?_, rfl⟩
  · show (loanState.loanAt i).state ≠ .free → (loanState.loanAt j).state ≠ .free → _
    intro hi hj _ _
    simp only [loanState, upState, State.setLoan_loanAt_eq, State.setNode_loanAt, reset_loanAt] at hi hj
    split at hi <;> split at hj <;> simp_all [Loan.reset]
  · show i ≠ j → (loanState.loanAt i).inForce = true → (loanState.loanAt j).inForce = true → _
    intro hij hi hj
    simp only [loanState, upState, State.setLoan_loanAt_eq, State.setNode_loanAt, reset_loanAt] at hi hj
    split at hi <;> split at hj <;> simp_all [Loan.reset, Loan.inForce]

/-- A WAITING READ at the head of node 0's wait list, with an attempt owed. -/
def waitState : State :=
  upState.setDesk 0
    { slots :=
        Desk.reset.slots.set 15
          { Slot.reset with state := .waiting, tag := 501, volume := 7, offset := 8800, length := 24 },
      waitList := [15], attemptsDue := 1 }

theorem witness_EveryStepKeepsSlotLaw : ∃ s t : State, s.SlotLaw ∧ step s = .next t := by
  refine ⟨{ waitState with pending := [.admissionAttempt 0] }, _, fun n => ?_, rfl⟩
  show (∀ k l, (waitState.slot n k).state ≠ .free → (waitState.slot n l).state ≠ .free → _) ∧
    ∀ k ∈ (waitState.desk n).waitList, (waitState.slot n k).state = .waiting
  by_cases h : n = 0
  · subst h; exact ⟨by decide, by decide⟩
  · simp [waitState, upState, State.slot, State.setDesk_desk_ne _ _ _ _ h, Desk.reset, Slot.reset]

theorem witness_EveryStepKeepsDiskLaw : ∃ s t : State, s.DiskLaw ∧ step s = .next t := by
  refine ⟨{ upState with pending := [.send 0] }, _, fun d => ⟨?_, ?_, fun c i hi => ?_⟩, rfl⟩
  · show tableCount (Vector.replicate 256 Stage.reset) (fun st => st.atDisk && st.disk == d) ≤ 8
    rw [tableCount, Vector.toList_replicate, List.countP_replicate]
    simp [Stage.atDisk, Stage.reset]
  · show (State.reset.disk d).depth ≤ 8
    simp [DiskRecord.reset]
  · replace hi : i ∈ (State.reset.disk d).lanes[c.val] := hi
    simp [DiskRecord.reset] at hi

/-- Node 12 shares volume 60 and holds the lock of its granule 900. -/
def lockState : State :=
  (upState.setLoan 0
      { state := .active, volume := 60, node := 12, mode := .sharedUpdate, term := 0, age := 0, owed := false }).setLock 63
    { state := .held, volume := 60, granule := 900, holder := 12, age := 4, owed := true }

theorem witness_EveryStepKeepsLockLaw : ∃ s t : State, s.LockLaw ∧ step s = .next t := by
  refine ⟨{ lockState with pending := [.holdLimit 63] }, _, ⟨fun k => ?_, fun k l => ?_⟩, rfl⟩
  · show (lockState.lockAt k).state = .held →
      lockState.sharesVolume (lockState.lockAt k).volume (lockState.lockAt k).holder = true
    intro h
    have hk : k = 63 := by
      by_contra hk
      simp [lockState, upState, State.setLock_lockAt_eq, hk, Lock.reset] at h
    subst hk
    exact tableAny_iff.mpr ⟨0, by decide⟩
  · show (lockState.lockAt k).state = .held → (lockState.lockAt l).state = .held → _
    intro hk hl
    simp only [lockState, upState, State.setLock_lockAt_eq, State.setLoan_lockAt, State.setNode_lockAt,
      reset_lockAt] at hk hl
    split at hk <;> split at hl <;> simp_all [Lock.reset]

theorem witness_FlagsStaySetUntilCleared :
    ∃ (c : Instr) (s : State) (f : Flag), c ≠ .powerOn ∧ (∀ h selection, c ≠ .clearNotices h selection) ∧
      s.flagSet f = true :=
  ⟨.idle 0, setFlag .tallyReady State.reset, .tallyReady, by simp, by simp, by decide +kernel⟩

theorem witness_LoadedTablesChangeByTheirWritesAlone :
    ∃ c : Instr, c ≠ .powerOn ∧ (∀ h i b, c ≠ .writeEntrySettings h i b) ∧ (∀ h i b, c ≠ .writeEntryClassmap h i b) ∧
      ∀ h i b, c ≠ .writeEntryNotice h i b := ⟨.idle 0, by simp, by simp, by simp, by simp⟩

/-- Map entry 3 is damaged beyond recovery. -/
def damagedState : State := upState.setMapEntry 3 { MapEntry.reset with condition := .lost }

theorem witness_RestartsKeepTheMap :
    ∃ (c : Instr) (s : State) (i : MapIdx), replacesMap c = false ∧ (s.mapEntry i).condition = .lost :=
  ⟨.restartPart fromPort0, damagedState, 3, rfl, by simp [damagedState]⟩

/-! ### Frames and links -/

theorem witness_GoodFramesGiveTheirCommand :
    (∃ c l body, Instr.wellFormed c = true ∧ (∀ h, headerOf c = some h → h.handedOn = false) ∧
      frameBody c = some (l, body) ∧ c = .renew 31 255) ∧
    ∃ c l body, Instr.wellFormed c = true ∧ (∀ h, headerOf c = some h → h.handedOn = false) ∧
      frameBody c = some (l, body) ∧ c = .breakLock fromPort0 63 :=
  ⟨⟨_, _, _, rfl, by simp [headerOf], rfl, rfl⟩, ⟨_, _, _, rfl, by simp [headerOf, fromPort0], rfl, rfl⟩⟩

/-- A LOAN REVOKE frame and a DONE OK frame may be followed by bytes that are ignored. -/
theorem witness_GoodFramesGiveTheirCommand_trailing :
    ∀ c, c = Instr.revokeLoan fromPort0 511 ∨ c = .diskDoneOk 15 326 →
      c.wellFormed = true ∧ (∀ h, headerOf c = some h → h.handedOn = false) ∧ takesTrailing c = false ∧
        ∃ l body, frameBody c = some (l, body) := by
  rintro c (rfl | rfl) <;> refine ⟨by decide, ?_, rfl, _, _, rfl⟩ <;> simp [headerOf, fromPort0]

/-- The kind codes next to the listed ones, and each short kind one byte below its fixed length. -/
theorem witness_GoodFramesGiveTheirCommand_dropped :
    ((0x1F : Byte).toNat < 0x20 ∧ 0x23 < (0x24 : Byte).toNat ∧ (List.replicate 10 (0 : Byte)).length + 1 < 12 ∧
      ([] : List Byte).length + 1 < 2 ∧ ([0, 0] : List Byte).length + 1 < 4) ∧
    (0x5F : Byte).toNat < 0x60 ∧ 0x67 < (0x68 : Byte).toNat ∧ (List.replicate 6 (0 : Byte)).length + 1 < 8 ∧
      (List.replicate 4098 (0 : Byte)).length + 1 < 4100 := by
  simp only [List.length_replicate]
  decide

theorem witness_DamagedFramesAreOnlyCounted : checkPasses [] = false ∧ checkPasses [0x20, 0, 0, 0, 0] = false :=
  ⟨by decide, by decide +kernel⟩

theorem witness_GoodFramesResetSilenceAndBringLinksUp :
    (upState.node 0).state = .up ∧ (upState.node 31).state = .down ∧
      ∃ c h, headerOf c = some h ∧ h.port = 31 ∧ h.handedOn = false :=
  ⟨by decide, by decide, .breakLock { fromPort0 with port := 31 } 63, _, rfl, rfl, rfl⟩

/-- Links with frames to send and to finish. -/
def sendingState : State :=
  (((upState.setNode 1 { NodeLink.reset false with finishing := some .idle }).setDiskLink 14
    { DiskLink.reset with finishing := some .drop }).setDiskLink 15
    { DiskLink.reset with state := .up, silence := 49, owed := true, out := [.idle, .drop] })

theorem witness_FramesLeaveInOrderOfProduction :
    (sendingState.node 1).finishing = some .idle ∧
      ((sendingState.node 0).finishing = none ∧ (sendingState.node 0).out = .idle :: []) ∧
      (sendingState.diskLink 14).finishing = some .drop ∧
      ((sendingState.diskLink 15).finishing = none ∧ (sendingState.diskLink 15).out = .idle :: [.drop]) ∧
      ((State.reset.node 31).finishing = none ∧ (State.reset.node 31).out = []) ∧
      (State.reset.diskLink 0).finishing = none ∧ (State.reset.diskLink 0).out = [] := by decide

theorem witness_PortExpiryCountsSilenceAndSendsIdle :
    (∀ n, (State.reset.node n).owed = false) ∧ ∀ d, (State.reset.diskLink d).owed = false :=
  ⟨fun n => by simp [reset_node, NodeLink.reset], fun d => by simp [DiskLink.reset]⟩

theorem witness_DeparturesEndTheNodesWork :
    (State.reset.node 31).state = .down ∧
      ((upState.node 0).state = .up ∧ (upState.node 0).owed = true ∧
        upState.link.limitRead ≤ (upState.node 0).silence + 1) ∧
      upState.managedBy fromPort0 ∧ (31 : Byte).toNat = (31 : NodePort).val :=
  ⟨by decide, by decide, upState_managed, by decide⟩

theorem witness_DiskLossesFailTheDisksStages :
    (State.reset.diskLink 0).state = .down ∧
      ((sendingState.diskLink 15).state = .up ∧ (sendingState.diskLink 15).owed = true ∧
        sendingState.link.limitRead ≤ (sendingState.diskLink 15).silence + 1) ∧
      upState.managedBy fromPort0 ∧ (15 : Byte).toNat = (15 : DiskPort).val :=
  ⟨by decide, by decide, upState_managed, by decide⟩

/-! ### Loans -/

/-- The checks of a GRANT LOAN that refuse, in their order: a node above 31 and a mode code 3; node 12's pair beside its
own WRITE loan; node 31's WRITE and SHARED-UPDATE beside that loan; and no entry FREE. -/
theorem witness_GrantsPutThePairInForce_refused :
    31 < (32 : Byte).toNat ∧ LoanMode.ofCode (3 : Byte).toNat = none ∧ loanState.managedBy fromPort0 ∧
      ((loanState.loanAt 511).inForce = true ∧ (loanState.loanAt 511).volume = 33 ∧ (loanState.loanAt 511).node = 12 ∧
        (loanState.loanAt 511).mode = .write ∧
        (∀ j, ¬((loanState.loanAt j).inForce = true ∧ (loanState.loanAt j).volume = 33 ∧
          (loanState.loanAt j).node = 31)) ∧
        (31 : Byte).toNat = (31 : NodePort).val ∧ LoanMode.ofCode (1 : Byte).toNat = some .write ∧
        LoanMode.ofCode (2 : Byte).toNat = some .sharedUpdate) ∧
      let s := { upState with loan := { upState.loan with
        loans := Vector.replicate 512 { Loan.reset with state := .recalled, volume := 77 } } }
      s.managedBy fromPort0 ∧ (∀ j, (s.loanAt j).inForce = false) ∧ s.pairEntry 33 31 = none ∧
        ∀ j, (s.loanAt j).state ≠ .free := by
  refine ⟨by decide, by decide, ?_, ⟨?_, ?_, ?_, ?_, fun j => ?_, by decide, by decide, by decide⟩, ?_⟩
  · simp [State.managedBy, loanState, upState, fromPort0, NodeLink.reset]
  · simp [loanState, Loan.inForce]
  · simp [loanState]
  · simp [loanState]
  · simp [loanState]
  · simp only [loanState, upState, State.setLoan_loanAt_eq, State.setNode_loanAt, reset_loanAt]
    split <;> simp [Loan.reset]
  · refine ⟨upState_managed, by simp [State.loanAt, Loan.inForce], tableFind_eq_none.mpr fun j => ?_, ?_⟩
    · simp [Loan.ofPair]
    · simp [State.loanAt]

/-- A SHARED-UPDATE loan for node 31 on volume 33 while entry 511 holds node 12's lapsed WRITE loan there: entry 0. And
that pair's own entry, granted again. -/
theorem witness_GrantsPutThePairInForce :
    let s := upState.setLoan 511
      { state := .lapsed, volume := 33, node := 12, mode := .write, term := 10, age := 10, owed := false }
    ∀ (n : NodePort) (i : LoanIdx), (n = 31 ∧ i = 0) ∨ (n = 12 ∧ i = 511) →
      s.managedBy fromPort0 ∧ (∀ j, (s.loanAt j).inForce = true → ¬((s.loanAt j).volume = 33 ∧ (s.loanAt j).node = n)) ∧
      (∀ j, (s.loanAt j).inForce = true → (s.loanAt j).volume = 33 → (s.loanAt j).mode ≠ .write) ∧
      (s.pairEntry 33 n = some i ∨ s.pairEntry 33 n = none ∧ (s.loanAt i).state = .free ∧
        ∀ j, j < i → (s.loanAt j).state ≠ .free) := by
  intro s n i hn
  have hs : ∀ j, s.loanAt j = if j = 511 then
      { state := .lapsed, volume := 33, node := 12, mode := .write, term := 10, age := 10, owed := false }
      else Loan.reset := by
    intro j; simp [s, upState, State.setLoan_loanAt_eq]
  have hf : ∀ j, (s.loanAt j).inForce = false := by
    intro j; rw [hs]; split <;> simp [Loan.inForce, Loan.reset]
  refine ⟨by simp [s, State.managedBy, upState, fromPort0, NodeLink.reset], by simp [hf], by simp [hf], ?_⟩
  rcases hn with ⟨rfl, rfl⟩ | ⟨rfl, rfl⟩
  · refine .inr ⟨tableFind_eq_none.mpr fun j => ?_, by rw [hs]; rfl, fun j hj => absurd hj (Fin.not_lt_zero j)⟩
    show ((s.loanAt j).state != .free && (s.loanAt j).ofPair 33 31) = false
    rw [hs]; split <;> simp [Loan.ofPair, Loan.reset]
  · refine .inl (tableFind_eq_some.mpr ⟨?_, fun j hj => ?_⟩)
    · show ((s.loanAt 511).state != .free && (s.loanAt 511).ofPair 33 12) = true
      rw [hs]; rfl
    · show ((s.loanAt j).state != .free && (s.loanAt j).ofPair 33 12) = false
      rw [hs, if_neg (fun e => absurd (e ▸ hj) (by decide))]; rfl

/-- The five states of a pair's entry at a RENEW. -/
theorem witness_RenewActsOnThePairsEntry :
    let s (x : LoanState) := upState.setLoan 0 { Loan.reset with state := x, volume := 5, node := 0 }
    (upState.node 0).state = .up ∧ (s .free).pairEntry 5 0 = none ∧
      (∀ x, x ≠ .free → (s x).pairEntry 5 0 = some 0 ∧ ((s x).loanAt 0).state = x) ∧
      ((s .due).loanAt 0).inForce = true := by
  intro s
  have h0 : ∀ x, (s x).loanAt 0 = { Loan.reset with state := x, volume := 5, node := 0 } := by simp [s]
  refine ⟨by decide, tableFind_eq_none.mpr fun j => ?_, fun x hx => ⟨tableFind_eq_some.mpr ⟨?_, ?_⟩, ?_⟩, ?_⟩
  · show (((s .free).loanAt j).state != .free && ((s .free).loanAt j).ofPair 5 0) = false
    simp only [s, upState, State.setLoan_loanAt_eq, State.setNode_loanAt, reset_loanAt]
    split <;> simp [Loan.reset]
  · show (((s x).loanAt 0).state != .free && ((s x).loanAt 0).ofPair 5 0) = true
    rw [h0]; cases x <;> simp_all [Loan.ofPair]
  · exact fun j hj => absurd hj (Fin.not_lt_zero j)
  · rw [h0]
  · rw [h0]; rfl

theorem witness_RevokeFreesTheEntry :
    upState.managedBy fromPort0 ∧ 511 < (512 : BitVec 16).toNat ∧ (511 : BitVec 16).toNat = (511 : LoanIdx).val ∧
      (upState.loanAt 511).state = .free ∧ (loanState.loanAt 511).inForce = true ∧ loanState.managedBy fromPort0 ∧
      ((loanState.setLoan 0 { Loan.reset with state := .recalled }).loanAt 0).state = .recalled := by
  refine ⟨upState_managed, by decide, by decide, ?_, ?_, ?_, ?_⟩
  · simp [upState, Loan.reset]
  · simp [loanState, Loan.inForce]
  · simp [State.managedBy, loanState, upState, fromPort0, NodeLink.reset]
  · simp

/-- No step is owed, and no claim is active, or one with its timer above 1, or at 1. -/
theorem witness_LendingExpiryCounts :
    ∀ timer, timer = 1 ∨ timer = 2 →
      let a : ActiveClaim := { claim := { node := 9, volume := 60, granule := 900 }, timer := timer }
      let s := { State.reset with lock := { State.reset.lock with active := some a } }
      (∀ i, (s.loanAt i).owed = false) ∧ (∀ k, (s.lockAt k).owed = false) ∧ s.lock.timerOwed = false ∧
        s.meter.periodOwed = false ∧ s.lock.active = some a ∧ State.reset.lock.active = none := by
  intro timer _
  refine ⟨fun i => ?_, fun k => ?_, rfl, rfl, rfl, rfl⟩
  · show (State.reset.loanAt i).owed = false
    simp [Loan.reset]
  · show (State.reset.lockAt k).owed = false
    simp [Lock.reset]

/-- A term of 10 at its fifth and at its tenth expiry. -/
theorem witness_AgeingMakesLoansDueAndLapsesThem :
    ((loanState.loanAt 511).owed = true ∧ (loanState.loanAt 511).state = .active ∧ 1 ≤ (loanState.loanAt 511).term / 2 ∧
      (loanState.loanAt 511).age + 1 = (loanState.loanAt 511).term / 2) ∧
    let s := loanState.setLoan 0 { Loan.reset with state := .due, term := 10, age := 9, owed := true }
    (s.loanAt 0).owed = true ∧ (s.loanAt 0).inForce = true ∧ 0 < (s.loanAt 0).term ∧
      (s.loanAt 0).term ≤ (s.loanAt 0).age + 1 := by
  simp [loanState, Loan.inForce]

/-! ### Admission and translation -/

/-- A READ and a WRITE that pass every check at arrival. -/
theorem witness_RequestsAreAcceptedIntoTheLowestSlot :
    (upState.node 0).state = .up ∧
      GoodForm { kind := 0, tag := 501, volume := 7, hint := 7, length := 64, offset := 0xFFFFFFC0, blocks := [],
                 partialBytes := 0 } .read ∧
      GoodForm { kind := 1, tag := 502, volume := 7, hint := 0, length := 1, offset := 0, blocks := [5],
                 partialBytes := 0 } .write ∧
      (∀ l, (upState.slot 0 l).state ≠ .free → (upState.slot 0 l).tag ≠ 501) ∧ (upState.slot 0 0).state = .free ∧
      (∀ l, l < (0 : SlotIdx) → (upState.slot 0 l).state ≠ .free) ∧ (1 : Byte).toNat ≤ upState.poolFree := by
  refine ⟨by decide, by unfold GoodForm; decide, by unfold GoodForm; decide, ?_, ?_, ?_, by decide +kernel⟩
  · simp [upState, Slot.reset]
  · simp [upState, Slot.reset]
  · exact fun l hl => absurd hl (Fin.not_lt_zero l)

/-- No length; a tag in use; no slot FREE; and a pool with 63 blocks free for a WRITE of 64. -/
theorem witness_RequestsAreAcceptedIntoTheLowestSlot_refused :
    (∀ kind, ¬GoodForm { kind := 0, tag := 501, volume := 7, hint := 0, length := 0, offset := 0, blocks := [],
                         partialBytes := 0 } kind) ∧
      ((waitState.node 0).state = .up ∧ (waitState.slot 0 15).state ≠ .free ∧ (waitState.slot 0 15).tag = 501) ∧
      (let s := upState.setDesk 0
        { slots := Vector.replicate 16 { Slot.reset with state := .admitted, tag := 9 }, waitList := [],
          attemptsDue := 0 }
       (s.node 0).state = .up ∧ (∀ l, (s.slot 0 l).state ≠ .free) ∧ ∀ l, (s.slot 0 l).tag ≠ 501) ∧
      let s := upState.setSlot 1 0 { Slot.reset with state := .waiting, kind := .write, held := 4033 }
      (s.node 0).state = .up ∧ s.poolFree < (64 : Byte).toNat ∧ ∀ l, (s.slot 0 l).state = .free := by
  refine ⟨fun kind => by simp [GoodForm], by decide +kernel, by decide +kernel, by decide +kernel⟩

/-- Entry 2 is recoverable and entry 3 damaged: a scan from 2 reads CORRECTED and ends at 3 or, with one entry in its
range, with RANGE; one from 4095 ends with the table. -/
theorem witness_ScansEndAtTheFirstMatch :
    let s := damagedState.setMapEntry 2 { MapEntry.reset with condition := .recoverable MapEntry.reset.stored }
    (∀ f : Nat, f = 2 ∨ f = 4095 → ∀ j : MapIdx, f ≤ j.val → j.val < f + 1 →
      (s.mapEntry j).condition ≠ .lost ∧ (s.mapEntry j).readFields.covers 7 1016 = false) ∧
    (s.mapEntry 2).condition ≠ .intact ∧ (s.mapEntry 4095).condition = .intact ∧
    ((s.mapEntry 3).condition = .lost ∧ (3 : MapIdx).val = 2 + 1) ∧ 4096 ≤ 4095 + 1 := by
  intro s
  have h : ∀ j : MapIdx, s.mapEntry j =
      if j = 2 then { MapEntry.reset with condition := .recoverable MapEntry.reset.stored }
      else if j = 3 then { MapEntry.reset with condition := .lost } else MapEntry.reset := by
    intro j
    simp [s, damagedState, upState, State.setMapEntry_mapEntry_eq]
  refine ⟨?_, by rw [h]; decide, by rw [h]; decide, ⟨by rw [h]; decide, by decide⟩, by decide⟩
  rintro f (rfl | rfl) j h1 h2
  · have hj : j = 2 := Fin.ext (by change j.val = 2; omega)
    subst hj; rw [h]; decide
  · have hj : j = 4095 := Fin.ext (by change j.val = 4095; omega)
    subst hj; rw [h]; decide

/-- Entry 4 is recoverable and covers no granule of volume 7, entry 5 is recoverable to entry 41: a scan from 4 reads
both. -/
theorem witness_ScansEndAtTheFirstMatch_scrubs :
    let s := (upState.setMapEntry 4 { MapEntry.reset with condition := .recoverable MapEntry.reset.stored }).setMapEntry 5
      { MapEntry.reset with condition := .recoverable entry41 }
    (5 : MapIdx).val = 4 + 1 ∧
      (∀ j : MapIdx, 4 ≤ j.val → j.val < 4 + 1 →
        (s.mapEntry j).condition ≠ .lost ∧ (s.mapEntry j).readFields.covers 7 1016 = false) ∧
      (s.mapEntry 4).condition ≠ .intact ∧ (s.mapEntry 5).condition ≠ .intact ∧ (s.mapEntry 5).condition ≠ .lost ∧
      (s.mapEntry 5).readFields.covers 7 1016 = true := by
  intro s
  have h : ∀ j : MapIdx, s.mapEntry j =
      if j = 5 then { MapEntry.reset with condition := .recoverable entry41 }
      else if j = 4 then { MapEntry.reset with condition := .recoverable MapEntry.reset.stored } else MapEntry.reset := by
    intro j
    simp [s, upState, State.setMapEntry_mapEntry_eq]
  refine ⟨by decide, fun j h1 h2 => ?_, by rw [h]; decide, by rw [h]; decide, by rw [h]; decide, by rw [h]; decide⟩
  have h4 : j = 4 := Fin.ext (by change j.val = 4; omega)
  subst h4
  rw [h]; decide

theorem witness_StripesStayInTheExtent :
    entry41.acceptable = true ∧ entry41.covers 7 1000 = true ∧ entry41.covers 7 5095 = true := by decide +kernel

/-- The head at slot 15 of node 0 with what an attempt needs: the loan, the volume, its extent and disk 5. -/
def admitState (kind : ReqKind) (mode : LoanMode) (locks : State → State) : State :=
  locks
    ((((((waitState.setSlot 0 15
      { Slot.reset with state := .waiting, tag := 501, kind := kind, volume := 7, offset := 8128, length := 8,
                        held := if kind.isWrite then 8 else 0,
                        data := if kind.isWrite then List.replicate 8 1 else [] }).setLoan 0
      { state := .due, volume := 7, node := 0, mode := mode, term := 10, age := 5, owed := false }).setVolume 7
      { state := .online, first := 4095, extents := 1, lockoutEnable := true, inFlight := 0 }).setMapEntry 4095
      { stored := entry41, condition := .intact, outcome := .clean }).setDisk 5
      { DiskRecord.reset with state := .present, capacity := 20005 }).setMeter 0
      { whole := 1, fraction := 0, burst := 64, credit := 8, spread := 0 })

theorem eq_mk_of_snd {α β : Type} {p : α × β} {b : β} (h : p.2 = b) : p = (p.1, b) := by rw [← h]

/-- Granule 1016 is matched, on a disk that is PRESENT, ABSENT, or too small; granule 5096 is not; and a request that
needs both fails at the second. -/
theorem witness_ScansEndAtTheFirstMatch_translates :
    let s := admitState .read .read id
    let c : Cut := { granule := 1016, first := 0, count := 8 }
    let c' : Cut := { granule := 5096, first := 0, count := 8 }
    (scanMap .read 7 1016 (s.volume 7).extents (s.volume 7).first.val s).2 = .ok entry41 ∧
      (s.disk (entry41.diskOf 1016)).state = .present ∧ ((s.setDisk 5 DiskRecord.reset).disk 5).state = .absent ∧
      entry41.diskGranuleOf 1016 < (s.disk 5).capacity ∧
      ((s.setDisk 5 { DiskRecord.reset with state := .present, capacity := 20004 }).disk 5).capacity ≤
        entry41.diskGranuleOf 1016 ∧
      (scanMap .read 7 5096 (s.volume 7).extents (s.volume 7).first.val s).2 = .error .range ∧
      ∃ s1 s2 ps, translateAll .read 7 [c] s = (s1, .ok ps) ∧ translateCut .read 7 c' s1 = (s2, .error .range) := by
  refine ⟨by decide +kernel, by decide +kernel, by decide +kernel, by decide +kernel, by decide +kernel,
    by decide +kernel, _, _, [{ granule := 1016, first := 0, count := 8, disk := 5, diskGranule := 20004 }],
    eq_mk_of_snd (by decide +kernel), eq_mk_of_snd (by decide +kernel)⟩

/-- Node 0 has no loan on volume 7; or it has one, and the volume is OFFLINE, or FROZEN. -/
theorem witness_FailedChecksRefuseTheHead :
    (∀ s, s = waitState ∨ s = waitState.setLoan 0 { Loan.reset with state := .active, volume := 7 } ∨
        s = (waitState.setLoan 0 { Loan.reset with state := .active, volume := 7 }).setVolume 7
          { VolumeEntry.reset with state := .frozen } →
      (s.desk 0).attemptsDue ≠ 0 ∧ s.headOf 0 = some 15 ∧ (s.node 0).state = .up ∧
        (s.meterOf 0).short (s.slot 0 15).length = false ∧ (s.slot 0 15).kind ≠ .lockread ∧
        (s.slot 0 15).volume = 7) ∧
    loanCheck 7 0 .read waitState = some .noLoan ∧
    (let s := waitState.setLoan 0 { Loan.reset with state := .active, volume := 7 }
     loanCheck 7 0 .read s = none ∧ (s.volume 7).state = .offline) ∧
    let s := (waitState.setLoan 0 { Loan.reset with state := .active, volume := 7 }).setVolume 7
      { VolumeEntry.reset with state := .frozen }
    loanCheck 7 0 .read s = none ∧ (s.volume 7).state = .frozen := by
  refine ⟨?_, by decide +kernel, by decide +kernel, by decide +kernel⟩
  rintro s (rfl | rfl | rfl) <;> decide +kernel

/-- A LOCKREAD on a FROZEN volume; a translation that ends at an ABSENT disk; a LOCKREAD of a granule that node 12 locks,
and of one that its own node locks; an UNLOCKWRITE with no lock. -/
theorem witness_FailedChecksRefuseTheHead_later :
    let held (holder : NodePort) (s : State) : State :=
      s.setLock 63 { state := .held, volume := 7, granule := 1016, holder := holder, age := 1, owed := false }
    let frozen := (admitState .lockread .sharedUpdate id).setVolume 7 { VolumeEntry.reset with state := .frozen }
    ((frozen.desk 0).attemptsDue ≠ 0 ∧ frozen.headOf 0 = some 15 ∧ (frozen.node 0).state = .up ∧
      (frozen.meterOf 0).short (frozen.slot 0 15).length = false ∧ loanCheck 7 0 .lockread frozen = none ∧
      (frozen.slot 0 15).volume = 7 ∧ (frozen.volume 7).state = .frozen ∧ (frozen.slot 0 15).kind = .lockread) ∧
    (let s := admitState .read .read fun s => s.setDisk 5 DiskRecord.reset
     (s.desk 0).attemptsDue ≠ 0 ∧ (s.node 0).state = .up ∧ HeadReaches (attempted 0 s) 0 15 ∧
       ∃ s', (attempted 0 s).translated 0 15 = (s', .error .diskLost)) ∧
    ∀ s status,
      (s = admitState .lockread .sharedUpdate (held 12) ∧ status = .retry) ∨
        (s = admitState .lockread .sharedUpdate (held 0) ∧ status = .lockHeld) ∨
        (s = admitState .unlockwrite .sharedUpdate id ∧ status = .lockLost) →
      HeadReaches (attempted 0 s) 0 15 ∧ ∃ s',
        (attempted 0 s).translated 0 15 =
          (s', .ok [{ granule := 1016, first := 0, count := 8, disk := 5, diskGranule := 20004 }]) ∧
        lockCheck (s.slot 0 15).kind 0 (s.slot 0 15).volume ((s.slot 0 15).offset / 8) s' = some status := by
  refine ⟨by decide +kernel, ⟨by decide +kernel, by decide +kernel,
    { head := by decide +kernel, credit := by decide +kernel, loan := by decide +kernel,
      volume := by decide +kernel }, _, eq_mk_of_snd (by decide +kernel)⟩, ?_⟩
  rintro s status (⟨rfl, rfl⟩ | ⟨rfl, rfl⟩ | ⟨rfl, rfl⟩) <;>
    exact ⟨{ head := by decide +kernel, credit := by decide +kernel, loan := by decide +kernel,
             volume := by decide +kernel }, _, eq_mk_of_snd (by decide +kernel), by decide +kernel⟩

/-- One lock names the granule, or none does: with a claim of another node on it, with no lock FREE, and with neither. -/
theorem witness_FailedChecksRefuseTheHead_locks :
    (∀ l, (lockState.lockAt l).state = .held ∧ (lockState.lockAt l).volume = 60 ∧ (lockState.lockAt l).granule = 900 ↔
      l = 63) ∧
    (∀ j, ¬((upState.lockAt j).state = .held)) ∧
    (let s := { upState with lock := { upState.lock with
        active := some { claim := { node := 9, volume := 60, granule := 900 }, timer := 3 } } }
     ∃ a, s.lock.active = some a ∧ a.claim.volume = 60 ∧ a.claim.granule = 900 ∧ a.claim.node ≠ 4) ∧
    (let s := { upState with lock := { upState.lock with
        locks := Vector.replicate 64 { Lock.reset with state := .held, volume := 77 } } }
     ∀ j, (s.lockAt j).state ≠ .free ∧ (s.lockAt j).volume ≠ 60) ∧
    upState.lock.active = none ∧ (upState.lockAt 0).state = .free := by
  refine ⟨fun l => ?_, ?_, ?_, ?_, by decide +kernel, by decide +kernel⟩
  · simp only [lockState, upState, State.setLock_lockAt_eq, State.setLoan_lockAt, State.setNode_lockAt, reset_lockAt]
    split <;> simp_all [Lock.reset]
  · simp [upState, Lock.reset]
  · exact ⟨_, rfl, by decide⟩
  · simp [State.lockAt]

/-- The pair of volume 33 and node 12 with one entry, in each state but FREE; and volume 34, with none. -/
theorem witness_FailedChecksRefuseTheHead_loans :
    ∀ x, x = LoanState.active ∨ x = .due ∨ x = .lapsed ∨ x = .recalled →
      let s := loanState.setLoan 511 { loanState.loanAt 511 with state := x }
      (s.loanAt 511).state = x ∧ (s.loanAt 511).volume = 33 ∧ (s.loanAt 511).node = 12 ∧
        (∀ j, (s.loanAt j).state ≠ .free → (s.loanAt j).volume = 33 → (s.loanAt j).node = 12 → j = 511) ∧
        ∀ j, (s.loanAt j).state ≠ .free → ¬((s.loanAt j).volume = 34 ∧ (s.loanAt j).node = 12) := by
  intro x _ s
  have h : ∀ j, s.loanAt j = if j = 511 then { loanState.loanAt 511 with state := x } else Loan.reset := by
    intro j
    simp only [s, loanState, upState, State.setLoan_loanAt_eq, State.setNode_loanAt, reset_loanAt]
    split <;> simp_all
  refine ⟨by rw [h]; simp, ?_, ?_, fun j hj _ _ => ?_, fun j hj => ?_⟩
  · rw [h]; simp [loanState]
  · rw [h]; simp [loanState]
  · by_contra hne; rw [h, if_neg hne] at hj; exact hj rfl
  · rw [h]
    by_cases hne : j = 511
    · simp [hne, loanState]
    · rw [h, if_neg hne] at hj; exact absurd rfl hj

/-- A metered node with a credit of 7 blocks for 8; a pass of every question with no stage FREE. -/
theorem witness_PassedAttemptsAdmitTheHead_waits :
    (let s := (admitState .read .read id).setMeter 0 { whole := 1, fraction := 0, burst := 64, credit := 7, spread := 0 }
     (s.desk 0).attemptsDue ≠ 0 ∧ s.headOf 0 = some 15 ∧ (s.meterOf 0).metered = true ∧
       (s.meterOf 0).credit < (s.slot 0 15).length) ∧
    let s := admitState .read .read fun s => { s with stages := { s.stages with
      table := Vector.replicate 256 { Stage.reset with state := .queued, disk := 9 } } }
    (s.desk 0).attemptsDue ≠ 0 ∧ HeadReaches (attempted 0 s) 0 15 ∧ ∃ s',
      (attempted 0 s).translated 0 15 =
          (s', .ok [{ granule := 1016, first := 0, count := 8, disk := 5, diskGranule := 20004 }]) ∧
        lockCheck (s.slot 0 15).kind 0 (s.slot 0 15).volume ((s.slot 0 15).offset / 8) s' = none ∧
        s'.freeStages < stagesNeeded s' 0 15 (s.slot 0 15).kind
          [{ granule := 1016, first := 0, count := 8, disk := 5, diskGranule := 20004 }] [] := by
  refine ⟨by decide +kernel, by decide +kernel,
    { head := by decide +kernel, credit := by decide +kernel, loan := by decide +kernel, volume := by decide +kernel },
    _, eq_mk_of_snd (by decide +kernel), by decide +kernel, by decide +kernel⟩

/-- A READ, a LOCKREAD, and an UNLOCKWRITE whose node holds the lock, all pass. -/
theorem witness_PassedAttemptsAdmitTheHead :
    ∀ s k, (s = admitState .read .read id ∧ k = .read) ∨ (s = admitState .lockread .sharedUpdate id ∧ k = .lockread) ∨
        (s = admitState .unlockwrite .sharedUpdate
            (fun s => s.setLock 63
              { state := .held, volume := 7, granule := 1016, holder := 0, age := 1, owed := false }) ∧
          k = .unlockwrite) →
      (s.desk 0).attemptsDue ≠ 0 ∧ (s.slot 0 15).kind = k ∧
        ∃ s', HeadPasses (attempted 0 s) 0 15 s'
          [{ granule := 1016, first := 0, count := 8, disk := 5, diskGranule := 20004 }] := by
  rintro s k (⟨rfl, rfl⟩ | ⟨rfl, rfl⟩ | ⟨rfl, rfl⟩) <;>
    exact ⟨by decide +kernel, by decide +kernel, _,
      { head := by decide +kernel, credit := by decide +kernel, loan := by decide +kernel,
        volume := by decide +kernel, translated := eq_mk_of_snd (by decide +kernel), locks := by decide +kernel,
        stages := by decide +kernel }⟩

/-- The node's own active claim on the granule, with claims behind it: one whose node shares no volume, and its own on
another granule. -/
theorem witness_PassedAttemptsAdmitTheHead_claims :
    let own : Claim := { node := 0, volume := 7, granule := 1016 }
    let c : Claim := { node := 9, volume := 60, granule := 900 }
    let d : Claim := { node := 0, volume := 7, granule := 1017 }
    let s := admitState .lockread .sharedUpdate fun s =>
      { s with lock := { s.lock with active := some { claim := own, timer := 3 }, pendingClaims := [c, d] } }
    (s.desk 0).attemptsDue ≠ 0 ∧ (s.slot 0 15).kind = .lockread ∧ (s.slot 0 15).volume = 7 ∧
      (s.slot 0 15).offset / 8 = 1016 ∧ s.lock.active = some { claim := own, timer := 3 } ∧
      s.lock.pendingClaims.filter (· != own) = [c] ++ d :: [] ∧ s.sharesVolume c.volume c.node = false ∧
      s.sharesVolume d.volume d.node = true ∧
      ∃ s', HeadPasses (attempted 0 s) 0 15 s'
        [{ granule := 1016, first := 0, count := 8, disk := 5, diskGranule := 20004 }] := by
  refine ⟨by decide +kernel, by decide +kernel, by decide +kernel, by decide +kernel, by decide +kernel,
    by decide +kernel, by decide +kernel, by decide +kernel, _,
    { head := by decide +kernel, credit := by decide +kernel, loan := by decide +kernel, volume := by decide +kernel,
      translated := eq_mk_of_snd (by decide +kernel), locks := by decide +kernel, stages := by decide +kernel }⟩

/-- A pass is owed: no head waits for STAGES, or the head of node 31 alone does. -/
theorem witness_ArbiterServesNodesInTurn :
    let s := { upState with stages := { upState.stages with passesDue := 1 } }
    let t := s.setDesk 31
      { slots := Desk.reset.slots.set 3 { Slot.reset with state := .waiting, waitFor := .stages }, waitList := [3],
        attemptsDue := 0 }
    s.stages.passesDue ≠ 0 ∧ s.passNodes = [] ∧ t.stages.passesDue ≠ 0 ∧ t.passNodes = [31] ∧ t.freeStages ≠ 0 ∧
      State.reset.stages.passesDue = 0 ∧ (waitState.desk 0).attemptsDue ≠ 0 := by
  decide +kernel

/-! ### Meters and tallies -/

theorem witness_SixteenRefillsAddTheRate :
    let m : Meter := { whole := 255, fraction := 15, burst := 4095, credit := 0, spread := 15 }
    m.spread < 16 ∧ m.fraction < 16 ∧ m.credit + 16 * m.whole + m.fraction ≤ m.burst := by decide

/-- Images with I, F and B: refused by F, refused by B, and taken at the ends of B's range. -/
theorem witness_MeterWritesClampTheCredit :
    upState.managedBy fromPort0 ∧ (31 : BitVec 16).toNat = (31 : NodePort).val ∧
      15 < field [1, 16, 4, 0, 0, 0, 0, 0] 1 1 ∧ field [1, 15, 0, 63, 0, 0, 0, 0] 2 2 < 64 ∧
      4095 < field [1, 15, 16, 0, 0, 0, 0, 0] 2 2 ∧
      ∀ b : List Byte, b = [0, 15, 0, 64, 0, 0, 0, 0] ∨ b = [255, 0, 15, 255, 0, 0, 0, 0] →
        b.length = 8 ∧ field b 1 1 ≤ 15 ∧ 64 ≤ field b 2 2 ∧ field b 2 2 ≤ 4095 := by
  refine ⟨upState_managed, by decide, by decide, by decide, by decide, ?_⟩
  rintro b (rfl | rfl) <;> decide

theorem witness_PeriodEndSnapshotsTallies :
    let s := { upState with meter := { upState.meter with periodOwed := true, periodCount := 9 } }
    s.meter.periodOwed = true ∧ s.meter.periodRead ≤ s.meter.periodCount + 1 := by decide

theorem witness_TallyReadsClearTheirMarks :
    upState.managedBy fromPort0 ∧ (31 : BitVec 16).toNat = (31 : NodePort).val ∧ 31 < (32 : BitVec 16).toNat :=
  ⟨upState_managed, by decide, by decide⟩

/-! ### Stages and disks -/

theorem witness_ReadPiecesCreateFetches :
    ReqKind.lockread.isWrite = false ∧ ReqKind.unlockwrite.isWrite = true ∧
      upState.joinTarget 31 15 5 20004 = none ∧ (upState.stage 0).state = .free ∧
      ∀ j, j < (0 : StageIdx) → (upState.stage j).state ≠ .free :=
  ⟨rfl, rfl, rfl, by simp [upState, Stage.reset], fun j hj => absurd hj (Fin.not_lt_zero j)⟩

/-- Stage 70 of 11.1 with generation 1, serving slot 2 of node 10, on the PRESENT disk 5. -/
def stage70 (x : StageState) (arrived : Nat) (abandoned : Bool) : Stage :=
  { Stage.reset with
    state := x, abandoned := abandoned, kind := .fetch, disk := 5, granule := 20004, generation := 1, tag := 326, cls := 1,
    lead := 5, arrived := arrived, sendAge := 14, acceptAge := 11, owed := true,
    waiters :=
      if abandoned then [] else [{ node := 10, slot := 2, granule := 1016, first := 0, count := 8, delivered := 0 }] }

/-- A state with one stage, 70, at the head of its chain, and in lane 1 if it is QUEUED. -/
def stageState (st : Stage) (held : Bool) : State :=
  let s := ((upState.setStage 70 st).setDisk 5
    { DiskRecord.reset with
      state := .present, held := held, capacity := 2000000,
      lanes := #v[[], if st.state = .queued then [70] else [], [], []] }).setNode 10
    { NodeLink.reset false with state := .up }
  { s with stages := { s.stages with order := [70] } }

/-- Every stage of a small state but stage 70 is as power-on left it. -/
theorem stageState_stage (st : Stage) (held : Bool) (i : StageIdx) :
    (stageState st held).stage i = if i = 70 then st else Stage.reset := by
  show (upState.setStage 70 st).stage i = _
  rw [State.setStage_stage_eq]
  split <;> simp [upState]

theorem witness_EveryStepKeepsSlotLaw_waiters : ∃ s t : State, s.WaiterLaw ∧ step s = .next t := by
  refine ⟨{ stageState (stage70 .sent 0 false) false with pending := [.nak 5 326] }, _, fun i => ?_, rfl⟩
  have h : ({ stageState (stage70 .sent 0 false) false with pending := [.nak 5 326] } : State).stage i =
      if i = 70 then stage70 .sent 0 false else Stage.reset := stageState_stage _ _ i
  rw [h]
  split <;> decide

theorem witness_EveryStepKeepsDiskLaw_chains : ∃ s t : State, s.ChainLaw ∧ step s = .next t := by
  refine ⟨{ stageState (stage70 .sent 0 false) false with pending := [.nak 5 326] }, _,
    ⟨by decide, fun i => ?_, fun i hi => ?_⟩, rfl⟩
  · show i ∈ [(70 : StageIdx)] ↔ ((stageState (stage70 .sent 0 false) false).stage i).state ≠ .free
    rw [stageState_stage]
    split <;> simp_all [stage70, Stage.reset]
  · have h70 : ∀ j, ((stageState (stage70 .sent 0 false) false).stage j).atDisk = true → j = 70 := by
      intro j hj
      rw [stageState_stage] at hj
      by_contra hne
      rw [if_neg hne] at hj
      cases hj
    have hi' := h70 i hi
    subst hi'
    exact ⟨by decide +kernel, fun j hj _ _ => h70 j hj⟩

theorem witness_EveryStepKeepsLockLaw_claims : ∃ s t : State, s.ClaimLaw ∧ step s = .next t :=
  ⟨{ upState with
      lock := { upState.lock with
        active := some { claim := { node := 9, volume := 60, granule := 900 }, timer := 1 },
        pendingClaims := [{ node := 12, volume := 60, granule := 900 }], timerOwed := true },
      pending := [.lockoutTimer] }, _, ⟨by decide, by decide, fun h => by cases h⟩, rfl⟩

theorem witness_ReadPiecesJoinTheTailFetch :
    ∀ x, x = StageState.queued ∨ x = .sent ∨ x = .accepted →
      let s := stageState (stage70 x 0 false) false
      (s.chain 5 20004).getLast? = some 70 ∧ (s.stage 70).kind = .fetch ∧ (s.stage 70).state = x ∧
        (s.stage 70).abandoned = false ∧ (s.stage 70).waiters.length < 8 ∧
        ∀ w ∈ (s.stage 70).waiters, ¬(w.node = 14 ∧ w.slot = 2) := by
  rintro x (rfl | rfl | rfl) <;> decide +kernel

/-- A read piece that may join needs no stage; a write piece, one with no chain, and one after a piece of the same disk
granule need one. -/
theorem witness_PassedAttemptsAdmitTheHead_stages :
    let p : Piece := { granule := 1016, first := 0, count := 8, disk := 5, diskGranule := 20004 }
    let s := stageState (stage70 .sent 0 false) false
    ¬NeedsStage s 14 2 .read [] p ∧ NeedsStage s 14 2 .write [] p ∧ NeedsStage s 14 2 .read [p] p ∧
      NeedsStage upState 14 2 .read [] p := by
  refine ⟨?_, .inl rfl, .inr (.inr (.inl ⟨_, List.mem_singleton_self _, rfl, rfl⟩)), .inr (.inr (.inr ?_))⟩
  · rintro (h | h | ⟨q, hq, _⟩ | h)
    · cases h
    · cases h
    · cases hq
    · exact h ⟨70, by decide +kernel⟩
  · rintro ⟨i, hi, _⟩
    replace hi : (none : Option StageIdx) = some i := hi
    cases hi

/-- A waiter of class 3 promotes the fetch of class 1. -/
theorem witness_ReadPiecesJoinTheTailFetch_promotes :
    ((stageState (stage70 .queued 0 false) false).stage 70).cls < 3 ∧
      ((stageState (stage70 .queued 0 false) false).stage 70).state = .queued := by decide +kernel

theorem witness_HellosMakeDisksPresent :
    (upState.disk 15).state = .absent ∧ ((stageState (stage70 .sent 0 false) false).disk 5).state = .present := by
  decide +kernel

/-- Each clause: SENT; SENT at a held disk; abandoned and STREAMING; ACCEPTED; RETRYING. -/
theorem witness_AcceptsAndNaksMoveTheirStage :
    ∀ x abandoned held, (x = StageState.sent ∧ abandoned = false) ∨ (x = .streaming ∧ abandoned = true) ∨
        (x = .accepted ∧ abandoned = false) ∨ (x = .retrying ∧ abandoned = false) →
      let s := stageState (stage70 x 0 abandoned) held
      (s.disk 5).state = .present ∧ matchReply 5 326 s = some 70 ∧ (s.stage 70).state = x ∧
        (s.stage 70).abandoned = abandoned ∧ (s.disk 5).held = held := by
  rintro x abandoned held (⟨rfl, rfl⟩ | ⟨rfl, rfl⟩ | ⟨rfl, rfl⟩ | ⟨rfl, rfl⟩) <;> cases held <;> decide +kernel

/-- An ABSENT disk; and the tag of stage 70's next generation, or one above all tags, at its disk. -/
theorem witness_AcceptsAndNaksMoveTheirStage_discards :
    (upState.disk 5).state = .absent ∧
      ∀ tag : Tag, tag = 582 ∨ tag = 65535 →
        let s := stageState (stage70 .sent 0 false) false
        (s.disk 5).state = .present ∧
          ∀ i : StageIdx, i.val = tag.toNat % 256 → tag.toNat ≤ 4095 → (s.stage i).generation = tag.toNat / 256 →
            (s.stage i).state ≠ .free → (s.stage i).state ≠ .queued → (s.stage i).disk ≠ 5 := by
  refine ⟨by decide +kernel, ?_⟩
  rintro tag (rfl | rfl) <;> decide +kernel

theorem witness_HoldsReturnRetryingStages :
    let s := stageState (stage70 .retrying 0 false) false
    (s.disk 5).state = .present ∧ (s.stage 70).state = .retrying ∧ (s.stage 70).disk = 5 := by decide +kernel

/-- The first block, at its lead index 5, and the last, at 4. -/
theorem witness_BlocksAreTakenInWrappedOrder :
    (let s := stageState (stage70 .accepted 0 false) false
     (s.disk 5).state = .present ∧ matchReply 5 326 s = some 70 ∧ (s.stage 70).kind = .fetch ∧
       (s.stage 70).state = .accepted ∧ (5 : Byte).toNat = (5 : BlockIdx).val ∧
       (5 : BlockIdx).val = ((s.stage 70).lead + (s.stage 70).arrived) % 8) ∧
    let s := stageState (stage70 .streaming 7 false) false
    matchReply 5 326 s = some 70 ∧ (s.stage 70).state = .streaming ∧ (s.stage 70).arrived < 8 ∧
      (4 : BlockIdx).val = ((s.stage 70).lead + (s.stage 70).arrived) % 8 := by decide +kernel

/-- A DONE ERROR, a DONE OK before the eighth block, a ninth block and a block out of its order; the one waiter's request
has no other stage. -/
theorem witness_ProtocolErrorsFailTheStage :
    (∀ arrived, arrived = 7 ∨ arrived = 8 →
      let s := stageState (stage70 .streaming arrived false) false
      (s.disk 5).state = .present ∧ matchReply 5 326 s = some 70 ∧ (s.stage 70).kind = .fetch ∧
        (s.node 10).state = .up ∧
        (s.stage 70).waiters = [{ node := 10, slot := 2, granule := 1016, first := 0, count := 8, delivered := 0 }]) ∧
    (∀ j, j ≠ 70 → ((stageState (stage70 .streaming 7 false) false).stage j).serves 10 2 = false) ∧
    ((stageState (stage70 .streaming 7 false) false).stage 70).completable = false ∧
    ¬((stageState (stage70 .streaming 8 false) false).stage 70).arrived < 8 ∧
    (5 : Byte).toNat ≠ ((stageState (stage70 .streaming 7 false) false).stage 70).expected := by
  refine ⟨?_, fun j hj => ?_, by decide +kernel, by decide +kernel, by decide +kernel⟩
  · rintro arrived (rfl | rfl) <;> decide +kernel
  · show (((upState.setStage 70 _).stage j).serves 10 2) = false
    rw [State.setStage_stage_ne _ _ _ _ hj]
    simp [upState, Stage.serves, Stage.reset]

/-- A STORE at the disk with its owner, whose request has no other stage. -/
def storeState (x : StageState) : State :=
  stageState
    { stage70 x 0 false with
      kind := .store, waiters := [], first := 0, count := 8, data := List.replicate 8 1,
      owner := some { node := 10, slot := 2 } } false

theorem witness_ProtocolErrorsFailTheStage_owner :
    ((storeState .accepted).disk 5).state = .present ∧ matchReply 5 326 (storeState .accepted) = some 70 ∧
      ((storeState .accepted).stage 70).kind = .store ∧
      ((storeState .accepted).stage 70).owner = some { node := 10, slot := 2 } ∧
      ((storeState .accepted).stage 70).serves 10 2 = true ∧ ((storeState .accepted).node 10).state = .up ∧
      ∀ j, j ≠ 70 → ((storeState .accepted).stage j).serves 10 2 = false := by
  refine ⟨by decide +kernel, by decide +kernel, by decide +kernel, by decide +kernel, by decide +kernel,
    by decide +kernel, fun j hj => ?_⟩
  show (((upState.setStage 70 _).stage j).serves 10 2) = false
  rw [State.setStage_stage_ne _ _ _ _ hj]
  simp [upState, Stage.serves, Stage.reset]

/-- A disk whose one stage serves one request, by a waiter and by an owner. -/
theorem witness_DiskLossesFailTheDisksStages_requests :
    ∀ s, s = stageState (stage70 .sent 0 false) false ∨ s = storeState .queued →
      (s.stage 70).disk = 5 ∧ (s.stage 70).serves 10 2 = true ∧
        ((s.stage 70).kind = .fetch → (s.stage 70).waiters.length = 1) ∧
        ∀ j : StageIdx, j ≠ 70 → (s.stage j).state = .free ∨ (s.stage j).disk ≠ 5 := by
  rintro s (rfl | rfl) <;> decide +kernel

/-- A FETCH with its 8 blocks, and an ACCEPTED STORE, each serving slot 2 of node 10 with one piece, or with two, left. -/
theorem witness_CompletionsCountTheirPieces :
    ∀ st left, (st = stage70 .streaming 8 false ∨
          st = { stage70 .accepted 0 false with kind := .store, waiters := [], count := 8,
                                                owner := some { node := 10, slot := 2 } }) → left = 1 ∨ left = 2 →
      let s := (stageState st false).setSlot 10 2 { Slot.reset with state := .admitted, outstanding := left }
      (s.disk 5).state = .present ∧ matchReply 5 326 s = some 70 ∧
        ((s.stage 70).kind = .fetch ∧ (s.stage 70).state = .streaming ∧ (s.stage 70).arrived = 8 ∨
          (s.stage 70).kind = .store ∧ (s.stage 70).state = .accepted) ∧
        (s.stage 70).pieces = [{ node := 10, slot := 2, count := 8 }] ∧ (s.node 10).state = .up ∧
        (s.slot 10 2).outstanding = left := by
  rintro st left (rfl | rfl) (rfl | rfl) <;> decide +kernel

/-- A FETCH with its 8 blocks and two waiters, of requests with one piece and with two left. -/
theorem witness_CompletionsCountTheirPieces_waiters :
    let st := { stage70 .streaming 8 false with
      waiters := [{ node := 10, slot := 2, granule := 1016, first := 0, count := 8, delivered := 8 },
                  { node := 10, slot := 3, granule := 1016, first := 2, count := 2, delivered := 2 }] }
    let s := ((stageState st false).setSlot 10 2 { Slot.reset with state := .admitted, outstanding := 1 }).setSlot 10 3
      { Slot.reset with state := .admitted, outstanding := 2 }
    (s.disk 5).state = .present ∧ matchReply 5 326 s = some 70 ∧ (s.stage 70).kind = .fetch ∧
      (s.stage 70).state = .streaming ∧ (s.stage 70).arrived = 8 ∧ (s.node 10).state = .up ∧
      ((s.stage 70).waiters.Pairwise fun w x => ¬(w.node = x.node ∧ w.slot = x.slot)) ∧
      (s.slot 10 2).outstanding = 1 ∧ (s.slot 10 3).outstanding = 2 := by decide +kernel

/-- Counters at the ends of their ranges, and a piece of 8 blocks. -/
theorem witness_CompletionsCountTheirPieces_tallies :
    let x := { Tally.reset with cumRead := 2 ^ 48 - 1, cumWritten := 2 ^ 48 - 9, perRead := 2 ^ 32 - 1,
                                perWritten := 2 ^ 32 - 9 }
    x.cumRead < 2 ^ 48 ∧ x.cumWritten < 2 ^ 48 ∧ x.perRead < 2 ^ 32 ∧ x.perWritten < 2 ^ 32 ∧ 8 ≤ 8 := by decide

/-- A QUEUED chain head in lane 1; no stage in a lane; and a disk that is held. -/
theorem witness_SendsTakeTheHighestChainHead :
    (let s := stageState (stage70 .queued 0 false) false
     (s.disk 5).state = .present ∧ (s.disk 5).held = false ∧ s.outstanding 5 < (s.disk 5).depth ∧
       (s.disk 5).lanes[(1 : Sys2Proof.Class).val] = [] ++ 70 :: [] ∧ (s.stage 70).state = .queued ∧
       s.isChainHead 70 = true ∧
       ∀ e : Sys2Proof.Class, 1 < e → (s.disk 5).lanes[e.val] = []) ∧
    (∀ c : Sys2Proof.Class, ((stageState (stage70 .sent 0 false) false).disk 5).lanes[c.val] = []) ∧
    ((stageState (stage70 .queued 0 false) true).disk 5).held = true := by decide +kernel

/-- A RETRYING stage at its disk, and no step owed for a stage at a disk. -/
theorem witness_DiskExpiryAgesAndResends :
    let s := stageState { stage70 .retrying 0 false with sendAge := 0, owed := false } false
    (s.stage 70).state = .retrying ∧ ∀ i, (s.stage i).atDisk = true → (s.stage i).owed = false := by
  refine ⟨by decide +kernel, fun i _ => ?_⟩
  rw [stageState_stage]
  split <;> rfl

/-- Ages at the timeouts of power-on: 15 sends, 12 accepts. -/
theorem witness_TimeoutsFailTheStage :
    ∀ x, x = StageState.sent ∨ x = .retrying ∨ x = .accepted ∨ x = .streaming →
      let s := stageState (stage70 x 0 false) false
      (s.stage 70).owed = true ∧ s.dispatch.timeoutsRead.disabled = false ∧ (s.stage 70).state = x ∧
        max 1 s.dispatch.timeoutsRead.retry ≤ min 255 ((s.stage 70).sendAge + 1) ∧
        max 1 s.dispatch.timeoutsRead.response ≤ min 255 ((s.stage 70).acceptAge + 1) ∧
        (s.stage 70).serves 10 2 = true ∧ (s.stage 70).waiters.length = 1 := by
  rintro x (rfl | rfl | rfl | rfl) <;> decide +kernel

/-- Stage 70 fails with two waiters, one of whose requests has a piece on stage 71 of disk 4, which serves a third
request too. -/
def failingState : State :=
  let s := (stageState { stage70 .sent 0 false with
    waiters := [{ node := 10, slot := 2, granule := 1016, first := 0, count := 8, delivered := 0 },
                { node := 10, slot := 3, granule := 1016, first := 2, count := 2, delivered := 0 }] } false).setStage 71
    { stage70 .queued 0 false with
      disk := 4
      waiters := [{ node := 10, slot := 2, granule := 1017, first := 0, count := 8, delivered := 0 },
                  { node := 31, slot := 15, granule := 1017, first := 0, count := 8, delivered := 0 }] }
  ((s.setSlot 10 2 { Slot.reset with state := .admitted, volume := 7, outstanding := 2 }).setSlot 10 3
    { Slot.reset with state := .admitted, volume := 7, outstanding := 1 }).setSlot 31 15
    { Slot.reset with state := .admitted, volume := 7, outstanding := 1 }

theorem witness_StagesFailed :
    ∀ gone, gone = (fun i : StageIdx => i == 70) ∨
        gone = (fun i => (failingState.stage i).disk == 5 && (failingState.stage i).state != .free) →
      gone 70 = true ∧ gone 71 = false ∧ failingState.onStages gone 10 2 = true ∧
        failingState.onStages gone 10 3 = true ∧ failingState.onStages gone 31 15 = false ∧
        (failingState.stage 71).serves 10 2 = true ∧ (failingState.node 10).state = .up ∧
        ∀ i, gone i = true →
          (failingState.stage i).waiters.Pairwise fun w x => ¬(w.node = x.node ∧ w.slot = x.slot) := by
  rintro gone (rfl | rfl) <;> decide +kernel

/-! ### Locks -/

theorem witness_HoldLimitBreaksTheLock :
    (lockState.lockAt 63).owed = true ∧ (lockState.lockAt 63).state = .held ∧
      lockState.lock.limitRead ≤ (lockState.lockAt 63).age + 1 := by decide +kernel

/-- 11.3's last expiry with claims behind: one whose node shares no volume, and one whose node 12 shares volume 60. -/
theorem witness_TimerEndHandsTheLockoutOver :
    let c : Claim := { node := 12, volume := 60, granule := 900 }
    let d : Claim := { node := 9, volume := 60, granule := 900 }
    let a : ActiveClaim := { claim := { node := 11, volume := 60, granule := 900 }, timer := 1 }
    let s := { lockState with
      lock := { lockState.lock with active := some a, timerOwed := true, pendingClaims := [d, c] } }
    s.lock.timerOwed = true ∧ s.lock.active = some a ∧ a.timer ≤ 1 ∧ s.lock.pendingClaims = [d] ++ c :: [] ∧
      s.sharesVolume d.volume d.node = false ∧ s.sharesVolume c.volume c.node = true := by decide +kernel

theorem witness_BreakLockFreesAHeldLock :
    upState.managedBy fromPort0 ∧ lockState.managedBy fromPort0 ∧ 63 < (64 : BitVec 16).toNat ∧
      (63 : BitVec 16).toNat = (63 : LockIdx).val ∧ (upState.lockAt 63).state = .free ∧
      (lockState.lockAt 63).state = .held := by
  refine ⟨upState_managed, ?_, by decide, by decide, by decide +kernel, by decide +kernel⟩
  simp [State.managedBy, lockState, upState, fromPort0, NodeLink.reset]

/-! ### Management -/

theorem witness_EveryManageFrameIsAnsweredLast : headerOf (.restartPortNode fromPort0 31) = some fromPort0 := rfl

/-- The last index of every table. -/
theorem witness_ReadsReturnTheEntryAsItStands :
    upState.managedBy fromPort0 ∧ (31 : BitVec 16).toNat = (31 : NodePort).val ∧
      (15 : BitVec 16).toNat = (15 : DiskPort).val ∧ (255 : BitVec 16).toNat = (255 : Volume).val ∧
      (511 : BitVec 16).toNat = (511 : LoanIdx).val ∧ (7 : BitVec 16).toNat = (7 : Fin 8).val ∧
      (255 : BitVec 16).toNat = (255 : StageIdx).val ∧ (63 : BitVec 16).toNat = (63 : LockIdx).val ∧
      (511 : BitVec 16).toNat = (31 : NodePort).val * 16 + (15 : SlotIdx).val :=
  ⟨upState_managed, by decide⟩

theorem witness_MapReadsReportTheirOutcome (x : Condition)
    (_ : x = .intact ∨ x = .recoverable entry41 ∨ x = .lost) :
    (upState.setMapEntry 4095 { MapEntry.reset with condition := x }).managedBy fromPort0 ∧
      (4095 : BitVec 16).toNat = (4095 : MapIdx).val ∧
      ((upState.setMapEntry 4095 { MapEntry.reset with condition := x }).mapEntry 4095).condition = x := by
  refine ⟨?_, by decide +kernel, by rw [State.setMapEntry_mapEntry]⟩
  unfold State.managedBy
  rw [State.setMapEntry_node]
  exact upState_managed

/-- The first index above every table. -/
theorem witness_AccessesOutOfRangeChangeNothing :
    upState.managedBy fromPort0 ∧ 0 < (1 : BitVec 16).toNat ∧ 31 < (32 : BitVec 16).toNat ∧
      15 < (16 : BitVec 16).toNat ∧ 255 < (256 : BitVec 16).toNat ∧ 4095 < (4096 : BitVec 16).toNat ∧
      511 < (512 : BitVec 16).toNat ∧ 7 < (8 : BitVec 16).toNat ∧ 63 < (64 : BitVec 16).toNat :=
  ⟨upState_managed, by decide⟩

/-- The image of entry 41, accepted; with a stripe width of 9, refused. -/
theorem witness_MapWritesStoreEveryByte :
    let image (width : Byte) : List Byte :=
      [1, 7, 4, width, 0, 0, 3, 0xE8, 0, 0, 0x10, 0, 0, 0, 0x4E, 0x20, 2, 5, 9, 0, 0, 0, 0, 0, 0, 0, 0, 0]
    upState.managedBy fromPort0 ∧ (4095 : BitVec 16).toNat = (4095 : MapIdx).val ∧ (image 3).length = 28 ∧
      extentOfImage (image 3) = some entry41 ∧ (image 9).length = 28 ∧ extentOfImage (image 9) = none :=
  ⟨upState_managed, by decide +kernel⟩

/-- The same images by the conditions of R7: that of entry 41 meets none, that of stripe width 9 meets one. -/
theorem witness_MapWritesStoreEveryByte_conditions :
    let image (width : Byte) : List Byte :=
      [1, 7, 4, width, 0, 0, 3, 0xE8, 0, 0, 0x10, 0, 0, 0, 0x4E, 0x20, 2, 5, 9, 0, 0, 0, 0, 0, 0, 0, 0, 0]
    MapImageRefused (image 9) ∧ ¬MapImageRefused (image 3) := by
  intro image
  have hu : field (image 3) 2 1 = 4 := by decide
  have hw : field (image 3) 3 1 = 3 := by decide
  have hb : field (image 3) 4 4 = 1000 := by decide
  have hl : field (image 3) 8 4 = 4096 := by decide
  have hd : field (image 3) 12 4 = 20000 := by decide
  have hv : field (image 3) 0 1 = 1 := by decide
  have h9 : field (image 9) 3 1 = 9 := by decide
  refine ⟨.inr (.inr (.inl (by rw [h9]; decide))), ?_⟩
  simp only [MapImageRefused, hu, hw, hb, hl, hd, hv]
  rintro (h | h | h | ⟨j, hj, h⟩ | ⟨i, j, hij, hj, h⟩ | h | h | h | h | h | h | h)
  iterate 3 (revert h; decide)
  · have : ∀ j, j < 3 → ¬15 < field (image 3) (16 + j) 1 := by decide
    exact this j hj h
  · have : ∀ j, j < 3 → ∀ i, i < j → field (image 3) (16 + i) 1 ≠ field (image 3) (16 + j) 1 := by decide
    exact this j hj i hij h
  all_goals revert h; decide

/-- The settings of power-on as an image, and the same with a silence limit of 0. -/
theorem witness_SettingsAreWrittenWholeOrNotAtAll :
    let image (limit : Byte) : List Byte :=
      [0, 0, 0, 0, 0, 0, 9, 99, 3, 0xE7, limit, 5, 6, 3, 10, 12, 15, 0, 0, 0, 0, 0, 0, 0]
    upState.managedBy fromPort0 ∧ (image 50).length = 24 ∧ (image 0).length = 24 ∧ field (image 0) 10 1 = 0 ∧
      ¬(field (image 50) 10 1 = 0 ∨ field (image 50) 11 1 = 0 ∨ field (image 50) 13 1 = 0 ∨ 15 < field (image 50) 13 1 ∨
        field (image 50) 14 1 = 0 ∨ 15 < field (image 50) 12 1 ∨ 15 < field (image 50) 15 1 ∨
        15 < field (image 50) 16 1 ∨ 1 < field (image 50) 5 1 ∨ 1 < field (image 50) 17 1) :=
  ⟨upState_managed, by decide⟩

/-- PORT: refused by value, refused for want of another manager port, taken. CLASSMAP: refused and taken. VOLUME:
refused and taken, at the ends of its ranges. -/
theorem witness_WritesObeyTheirRanges :
    upState.managedBy fromPort0 ∧ (0 : BitVec 16).toNat = (0 : NodePort).val ∧
      (15 : BitVec 16).toNat = (15 : DiskPort).val ∧ (7 : BitVec 16).toNat = (7 : Fin 8).val ∧
      (255 : BitVec 16).toNat = (255 : Volume).val ∧
      3 < field [0, 0, 4, 0, 0, 0, 0, 0] 2 1 ∧ field [0, 0, 3, 0, 0, 0, 0, 0] 1 1 = 0 ∧
      (∀ m, m ≠ 0 → (upState.node m).manager = false) ∧ field [0, 1, 3, 0, 0, 0, 0, 0] 1 1 = 1 ∧
      field [0, 1, 3, 0, 0, 0, 0, 0] 2 1 = (3 : Sys2Proof.Class).val ∧
      3 < field [4] 0 1 ∧ field [3] 0 1 = (3 : Sys2Proof.Class).val ∧
      256 < field [0, 0, 0, 0, 1, 1, 0, 0] 4 2 ∧
      VolState.code .offline = field [2, 1, 15, 255, 1, 0, 0, 0] 0 1 ∧
      (4095 : MapIdx).val = field [2, 1, 15, 255, 1, 0, 0, 0] 2 2 ∧ field [2, 1, 15, 255, 1, 0, 0, 0] 1 1 ≤ 1 ∧
      field [2, 1, 15, 255, 1, 0, 0, 0] 4 2 ≤ 256 := by
  refine ⟨upState_managed, by decide, by decide, by decide, by decide, by decide, by decide, fun m hm => ?_, ?_⟩
  · simp [upState, State.setNode_node_eq, hm, reset_node, NodeLink.reset]
  · decide

theorem witness_WritesObeyTheirRanges_lengths :
    upState.managedBy fromPort0 ∧ (0 : BitVec 16).toNat < 1 ∧
      ∀ n, n = 24 ∨ n = 8 ∨ n = 20 ∨ n = 28 ∨ n = 1 ∨ n = 42 → ([] : List Byte).length ≠ n :=
  ⟨upState_managed, by decide, by simp⟩

theorem witness_ClearNoticesClearsTheMarkedFlags : upState.managedBy fromPort0 := upState_managed

theorem witness_RestartPartEndsAllWork : lockState.managedBy fromPort0 := by
  simp [State.managedBy, lockState, upState, fromPort0, NodeLink.reset]

/-- A port without the attribute; an unknown operation; an unknown table; ports above the ranges. -/
theorem witness_RefusedManageFramesChangeNothing :
    let s := upState.setNode 1 { NodeLink.reset false with state := .up }
    headerOf (.restartPart { fromPort0 with port := 1 }) = some { fromPort0 with port := 1 } ∧
      (s.node 1).state = .up ∧ (s.node 1).manager = false ∧ upState.managedBy fromPort0 ∧ servable 9 [] = false ∧
      servable 1 [14, 0, 0, 0] = false ∧ servable 2 [13, 0, 0] = false ∧ 31 < (32 : Byte).toNat ∧
      15 < (16 : Byte).toNat :=
  ⟨rfl, by decide +kernel, by decide +kernel, upState_managed, by decide, by decide, by decide, by decide, by decide⟩

/-! ## One step of a worked example -/

/-- 11.1, third row: node 22's piece of class 3 joins stage 70, which moves to lane 3. -/
theorem test_promotion_moves_the_stage :
    let s := createPiece 22 0 .read 3 { granule := 1016, first := 2, count := 2, disk := 5, diskGranule := 20004 } []
      (stageState (stage70 .queued 0 false) false)
    (s.stage 70).cls = 3 ∧ (s.stage 70).waiters.length = 2 ∧ (s.disk 5).lanes = #v[[], [], [], [70]] := by
  decide +kernel

/-- 11.1, last row: a piece for a STREAMING stage makes a new one, which is not its chain's head. -/
theorem test_streaming_stage_is_not_joined :
    let s := createPiece 5 0 .read 1 { granule := 1016, first := 0, count := 8, disk := 5, diskGranule := 20004 } []
      (stageState (stage70 .streaming 1 false) false)
    s.chain 5 20004 = [70, 0] ∧ s.isChainHead 0 = false ∧ (s.disk 5).lanes = #v[[], [0], [], []] := by
  decide +kernel

/-- 11.3, row 3: a free lock is refused to node 4 while node 9's claim on the granule is active. -/
theorem test_lockread_waits_for_the_claimant :
    let s := { upState with
      lock := { upState.lock with
        active := some { claim := { node := 9, volume := 60, granule := 900 }, timer := 3 } } }
    lockreadCheck 4 60 900 s = some .retry ∧ lockreadCheck 9 60 900 s = none ∧ lockreadCheck 4 60 901 s = none := by
  decide +kernel

/-- R176: a settings write taken after the disk clock expiry and before the stage's step spares no stage of that
expiry. -/
theorem test_a_timeout_outlasts_a_settings_write :
    let s := stageState (stage70 .sent 0 false) false
    let s := { s with management := { s.management with settings := { s.settings with timeoutsDisabled := true } } }
    ((stageStep 70 s).stage 70).state = .free := by decide +kernel

/-- R176: a settings write that lowers the hold limit to 1 after the lending clock expiry breaks no lock of that
expiry. -/
theorem test_a_lock_outlasts_a_settings_write :
    let s := lockState.setLock 63 { lockState.lockAt 63 with age := 0 }
    let s := { s with management := { s.management with settings := { s.settings with holdLimit := 1 } } }
    ((lockStep 63 s).lockAt 63).state = .held := by decide +kernel

/-- 2.3, steps 2 to 5: a WRITE loan in force refuses WRITE and SHARED-UPDATE, and DUPLICATE comes before CONFLICT. -/
theorem test_grants_beside_a_write_loan :
    let s := upState.setLoan 1 { Loan.reset with state := .active, volume := 20, node := 5, mode := .write, term := 600 }
    grantCheck 20 6 .write s = some .conflict ∧ grantCheck 20 6 .sharedUpdate s = some .conflict ∧
      grantCheck 20 6 .read s = none ∧ grantCheck 20 5 .write s = some .duplicate := by decide +kernel

/-- 11.4: an ACCEPTED STORE whose request is withdrawn is abandoned, and its blocks stay in the pool on its account. -/
theorem test_withdrawn_store_keeps_its_blocks :
    let s := detachPiece 12 0 70
      (stageState { stage70 .accepted 0 false with kind := .store, waiters := [], count := 8,
                                                   owner := some { node := 12, slot := 0 } } false)
    (s.stage 70).abandoned = true ∧ (s.stage 70).state = .accepted ∧ (s.stage 70).account = 8 := by decide +kernel

/-- R81, R122, R124: a DONE ERROR for one stage ends both requests with a piece on it, and takes the one's other piece
from a stage that goes on for another request. -/
theorem test_a_failure_withdraws_the_other_pieces :
    let t := failStage 70 .diskError failingState
    (t.stage 70).state = .free ∧ (t.slot 10 2).state = .free ∧ (t.slot 10 3).state = .free ∧
      t.slot 31 15 = failingState.slot 31 15 ∧ (t.stage 71).state = .queued ∧
      (t.stage 71).waiters = [{ node := 31, slot := 15, granule := 1017, first := 0, count := 8, delivered := 0 }] := by
  decide +kernel

/-- R85, R73: the end of the pair's loan takes its requests from the wait list and leaves the other's place. -/
theorem test_a_revoked_loan_leaves_the_other_requests_waiting :
    let s := ((upState.setDesk 12 { Desk.reset with waitList := [15, 3, 0], attemptsDue := 1 }).setSlot 12 15
      { Slot.reset with state := .waiting, volume := 33 }).setSlot 12 3
      { Slot.reset with state := .waiting, volume := 7 } |>.setSlot 12 0
      { Slot.reset with state := .waiting, volume := 33 }
    ((endLoanWork 12 33 .loanRevoked s).desk 12).waitList = [3] := by
  decide +kernel

end Sys2Proof.Tests
end

section
/-! PROOFS. Loans: RENEW (R39). First the frame taken from an UP node port and the answer put on its list, in the words
of the statements; then the renewal by the state of the pair's entry. -/

namespace Sys2Proof.Machine

/-! ## A good frame from an UP node port and the answer to it -/

theorem goodNodeFrame_eq_heardOn {n : NodePort} {s : State} (up : (s.node n).state = .up) :
    goodNodeFrame n s = heardOn n s := goodNodeFrame_up up

theorem produceNode_eq_replied {n : NodePort} {s : State} (up : (s.node n).state = .up) (f : NodeFrame) :
    produceNode n f s = replied n f s := produceNode_up up f

@[simp] theorem heardOn_node_self (n : NodePort) (s : State) :
    (heardOn n s).node n = { s.node n with silence := 0 } := by simp [heardOn]

@[simp] theorem heardOn_loanAt (n : NodePort) (s : State) (i : LoanIdx) : (heardOn n s).loanAt i = s.loanAt i := rfl

@[simp] theorem heardOn_pairEntry (n m : NodePort) (v : Volume) (s : State) :
    (heardOn n s).pairEntry v m = s.pairEntry v m := rfl

@[simp] theorem heardOn_loanDetail (n : NodePort) (s : State) (i : LoanIdx) :
    (heardOn n s).loanDetail i = s.loanDetail i := rfl

/-! ## Renewal by the state of the pair's entry -/

theorem Loan.inForce_iff {l : Loan} : l.inForce = true ↔ l.state = .active ∨ l.state = .due := by
  simp [Loan.inForce]

section Renewal

variable {v : Volume} {n : NodePort} {s : State} {i : LoanIdx}

theorem renewPair_of_none (up : (s.node n).state = .up) (entry : s.pairEntry v n = none) :
    renewPair v n s = replied n (.loanNotice v .none none) s := by
  simp only [renewPair, entry, produceNode_eq_replied up]

/-- A loan in force is answered after it became ACTIVE with age 0, so the notice carries the new age. -/
theorem renewPair_of_inForce (up : (s.node n).state = .up) (entry : s.pairEntry v n = some i)
    (inForce : (s.loanAt i).inForce = true) :
    renewPair v n s =
      replied n
        (.loanNotice v .active
          (some { index := i, mode := (s.loanAt i).mode, term := (s.loanAt i).term, age := 0 }))
        (s.setLoan i { s.loanAt i with age := 0, state := .active }) := by
  rw [← produceNode_eq_replied (by simpa using up)]
  rcases Loan.inForce_iff.mp inForce with active | due
  · have keeps : { s.loanAt i with age := 0, state := .active } = { s.loanAt i with age := 0 } := by rw [← active]
    rw [keeps]
    simp only [renewPair, entry, active, State.loanDetail, State.setLoan_loanAt]
  · simp only [renewPair, entry, due, State.loanDetail, State.setLoan_loanAt]

theorem renewPair_of_lapsed (up : (s.node n).state = .up) (entry : s.pairEntry v n = some i)
    (lapsed : (s.loanAt i).state = .lapsed) :
    renewPair v n s = replied n (.loanNotice v .lapsed (some (s.loanDetail i))) s := by
  simp only [renewPair, entry, lapsed, produceNode_eq_replied up]

theorem renewPair_of_recalled (up : (s.node n).state = .up) (entry : s.pairEntry v n = some i)
    (recalled : (s.loanAt i).state = .recalled) :
    renewPair v n s = replied n (.loanNotice v .recalled (some (s.loanDetail i))) s := by
  simp only [renewPair, entry, recalled, produceNode_eq_replied up]

/-- RENEW from an UP port renews the pair in the state that has taken the frame. -/
theorem exec_renew_of_up (up : (s.node n).state = .up) :
    exec (.renew n v) s = .next (renewPair v n (heardOn n s)) := by
  rw [← goodNodeFrame_eq_heardOn up]
  rfl

end Renewal

/-- Settles O22, by the four outcomes of the look-up: no entry, a loan in force, LAPSED, RECALLED (R39). The frame taken
before the look-up leaves the loans alone and its port UP, so the answer goes to the tail of the port's list (R59). -/
theorem renewActsOnThePairsEntry : Obligations.RenewActsOnThePairsEntry := by
  intro n v s up
  have heardUp : ((heardOn n s).node n).state = .up := by simpa using up
  rw [exec_renew_of_up up, ← heardOn_pairEntry n]
  refine ⟨fun entry => ?none, fun i entry =>
    ⟨fun inForce => ?inForce, fun lapsed => ?lapsed, fun recalled => ?recalled⟩⟩
  case none => rw [renewPair_of_none heardUp entry]
  case inForce => rw [renewPair_of_inForce heardUp entry inForce, heardOn_loanAt]
  case lapsed => rw [renewPair_of_lapsed heardUp entry lapsed, heardOn_loanDetail]
  case recalled => rw [renewPair_of_recalled heardUp entry recalled, heardOn_loanDetail]

end Sys2Proof.Machine
end

section
/-! PROOFS. Management: a MANAGE frame from an UP manager port, served and answered, in the words of the statements;
then READ ENTRY of any table by its index, and a write to a wholly read-only table. -/

namespace Sys2Proof.Machine

section Managed

variable {h : ManageHeader} {s : State}

/-! ## The frame taken and the reply to it -/

theorem takeManage_eq_heard (managed : s.managedBy h) : takeManage h s = heard h s := by
  unfold takeManage heard
  rw [goodNodeFrame_eq_heardOn managed.1]

theorem heard_up (managed : s.managedBy h) : ((heard h s).node h.port).state = .up := by
  unfold heard
  split
  · exact managed.1
  · simpa using managed.1

@[simp] theorem heard_tallyOf (h : ManageHeader) (s : State) (n : NodePort) : (heard h s).tallyOf n = s.tallyOf n := by
  unfold heard
  split <;> rfl

theorem replyTo_eq_replied {r : Served} (up : (r.state.node h.port).state = .up) (operation table : Byte) :
    replyTo h operation table r =
      replied h.port (.manageReply h.tag operation r.status table r.index r.image) r.state :=
  produceNode_eq_replied up _

/-- The reply goes to the tail of the port's list, if serving leaves the port UP (R59, R171). -/
theorem manage_eq_replied {serve : State → Served} {r : Served} (managed : s.managedBy h)
    (served : serve (heard h s) = r) (up : (r.state.node h.port).state = .up) (operation table : Byte)
    (index : BitVec 16) :
    manage h operation table index serve s =
      replied h.port (.manageReply h.tag operation r.status table r.index r.image) r.state := by
  have ⟨linkUp, manager⟩ := managed
  rw [manage_served linkUp manager, takeManage_eq_heard managed, served, replyTo_eq_replied up]

/-! ## Table access by index -/

variable {index : BitVec 16} {size : Nat} {get : Fin size → State → State × ReplyStatus × List Byte}

theorem readEntry_of_index (managed : s.managedBy h) {i : Fin size} (isIndex : index.toNat = i.val) {t : State}
    {status : ReplyStatus} {image : List Byte} (got : get i (heard h s) = (t, status, image))
    (up : (t.node h.port).state = .up) (table : Table) :
    readEntry h table index size get s =
      replied h.port (.manageReply h.tag 1 status table.code index image) t := by
  have inRange : index.toNat < size := isIndex ▸ i.isLt
  have entry : (⟨index.toNat, inRange⟩ : Fin size) = i := Fin.ext isIndex
  exact manage_eq_replied (r := ⟨t, status, index, image⟩) managed (by simp [inRange, entry, got]) up ..

theorem readEntry_of_out_of_range (managed : s.managedBy h) (outOfRange : size ≤ index.toNat) (table : Table) :
    readEntry h table index size get s =
      replied h.port (.manageReply h.tag 1 .badIndex table.code index []) (heard h s) :=
  manage_eq_replied (r := ⟨heard h s, .badIndex, index, []⟩) managed (by simp [outOfRange.not_gt]) (heard_up managed) ..

theorem exec_writeEntryReadOnly_of_managedBy (managed : s.managedBy h) (table : ReadOnlyTable) (b : List Byte) :
    exec (.writeEntryReadOnly h table index b) s =
      .next (replied h.port (.manageReply h.tag 2 .readOnly (tableOfReadOnly table).code index []) (heard h s)) :=
  congrArg Host.Outcome.next
    (manage_eq_replied (r := ⟨heard h s, .readOnly, index, []⟩) managed rfl (heard_up managed) ..)

end Managed

/-! ## The tally (R102) -/

theorem exec_readEntryTally (h : ManageHeader) (index : BitVec 16) (s : State) :
    exec (.readEntryTally h index) s = .next (readEntry h .tally index 32 readTally s) := rfl

/-- The frame taken before the read is no part of the tally, so what is returned and kept is the tally of before. -/
theorem readTally_heard (h : ManageHeader) (n : NodePort) (s : State) :
    readTally n (heard h s) =
      ((heard h s).setTally n { s.tallyOf n with ready := false, overrun := false }, .ok, tallyImage (s.tallyOf n)) := by
  simp only [readTally, heard_tallyOf, Tally.afterRead]

/-- Settles O36, by the three accesses: a read in range, a read above it, a write (R102, R171, R173). -/
theorem tallyReadsClearTheirMarks : Obligations.TallyReadsClearTheirMarks := by
  intro h index s managed
  rw [exec_readEntryTally]
  refine ⟨fun n isIndex => ?inRange, fun above => ?above, fun b => ?write⟩
  case inRange =>
    rw [readEntry_of_index managed isIndex (readTally_heard h n s) (by simpa using heard_up managed)]
    rfl
  case above =>
    rw [readEntry_of_out_of_range managed above]
    rfl
  case write => exact exec_writeEntryReadOnly_of_managedBy managed .tally b

end Sys2Proof.Machine
end


section
/-! PROOFS. Locks: BREAK LOCK by its index and entry (R161). First the reply to an operation that carries no table, then
what serving the operation does to the lock entry the index names. -/

namespace Sys2Proof.Machine

@[simp] theorem heard_lockAt (h : ManageHeader) (s : State) (k : LockIdx) : (heard h s).lockAt k = s.lockAt k := by
  unfold heard
  split <;> rfl

section BreakLock

variable {h : ManageHeader} {s t : State} {status : ReplyStatus} {index : BitVec 16} {k : LockIdx}

theorem manageOp_eq_replied {serve : State → State × ReplyStatus} (managed : s.managedBy h)
    (served : serve (heard h s) = (t, status)) (up : (t.node h.port).state = .up) (operation : Byte) :
    manageOp h operation serve s = replied h.port (.manageReply h.tag operation status 0 0 []) t :=
  manage_eq_replied (r := ⟨t, status, 0, []⟩) managed (by simp only [served]) up ..

/-! ## Serving, by the index and the entry -/

theorem serveBreak_of_out_of_range (above : 63 < index.toNat) : serveBreak index s = (s, .badIndex) := by
  have outOfRange : ¬ index.toNat < 64 := by omega
  simp only [serveBreak, outOfRange, dite_false]

/-- An index in range is served by its entry alone. -/
theorem serveBreak_of_index (isIndex : index.toNat = k.val) :
    serveBreak index s =
      if (s.lockAt k).state = .free then (s, .notFound) else (s.setLock k (s.lockAt k).freed, .ok) := by
  have inRange : index.toNat < 64 := isIndex ▸ k.isLt
  have entry : (⟨index.toNat, inRange⟩ : LockIdx) = k := Fin.ext isIndex
  simp only [serveBreak, inRange, dite_true, entry]
  cases (s.lockAt k).state <;> rfl

theorem serveBreak_of_free (isIndex : index.toNat = k.val) (free : (s.lockAt k).state = .free) :
    serveBreak index s = (s, .notFound) := by
  rw [serveBreak_of_index isIndex, if_pos free]

theorem serveBreak_of_held (isIndex : index.toNat = k.val) (held : (s.lockAt k).state = .held) :
    serveBreak index s = (s.setLock k (s.lockAt k).freed, .ok) := by
  rw [serveBreak_of_index isIndex, if_neg (by simp [held])]

/-! ## The command -/

/-- BREAK LOCK from an UP manager port is answered in the state that serving it leaves. -/
theorem exec_breakLock_of_managedBy (managed : s.managedBy h) (served : serveBreak index (heard h s) = (t, status))
    (up : (t.node h.port).state = .up) :
    exec (.breakLock h index) s = .next (replied h.port (.manageReply h.tag 5 status 0 0 []) t) :=
  congrArg Host.Outcome.next (manageOp_eq_replied managed served up 5)

end BreakLock

/-- Settles O50, by the three rows of R161: an index above 63, a FREE entry, a HELD entry. The frame taken before the
look-up leaves the lock table alone, so the entry served is the one that stood before it. -/
theorem breakLockFreesAHeldLock : Obligations.BreakLockFreesAHeldLock := by
  intro h index s managed
  have up := heard_up managed
  refine ⟨fun above => ?above, fun k isIndex => ⟨fun free => ?free, fun held => ?held⟩⟩
  case above => exact exec_breakLock_of_managedBy managed (serveBreak_of_out_of_range above) up
  case free => exact exec_breakLock_of_managedBy managed (serveBreak_of_free isIndex (by rwa [heard_lockAt])) up
  case held =>
    have served := serveBreak_of_held (s := heard h s) isIndex (by rwa [heard_lockAt])
    rw [exec_breakLock_of_managedBy managed served (by rwa [State.setLock_node]), heard_lockAt]
    rfl

end Sys2Proof.Machine
end

section
/-! PROOFS. Notices: CLEAR NOTICES (R181). First what clearing the marked flags does to a flag and what it keeps, then
the reply to the command. -/

namespace Sys2Proof.Machine

/-! ## Flags cleared by a selection -/

/-- Every flag has a bit of the 135-bit flag image. -/
theorem Flag.number_lt (f : Flag) : f.number < 135 := by
  cases f <;> simp only [Flag.number] <;> omega

theorem clearFlags_flagSet (selection : FlagImage) (s : State) (f : Flag) :
    (clearFlags selection s).flagSet f = (s.flagSet f && !selection.getLsbD f.number) := by
  simp [State.flagSet, clearFlags, f.number_lt]

theorem clearFlags_management (selection : FlagImage) (s : State) :
    (clearFlags selection s).management =
      { s.management with flags := (clearFlags selection s).management.flags } := rfl

@[simp] theorem clearFlags_node (selection : FlagImage) (s : State) (n : NodePort) :
    (clearFlags selection s).node n = s.node n := rfl

/-- An answer put on a port's list is no part of the management block, so it stands beside the cleared flags. -/
theorem replied_clearFlags (n : NodePort) (frame : NodeFrame) (selection : FlagImage) (s : State) :
    replied n frame (clearFlags selection s) =
      { replied n frame s with management := (clearFlags selection s).management } := rfl

/-! ## The frame taken and the answer put keep the management block -/

@[simp] theorem heard_management (h : ManageHeader) (s : State) : (heard h s).management = s.management := by
  unfold heard
  split <;> rfl

@[simp] theorem heard_flagSet (h : ManageHeader) (s : State) (f : Flag) : (heard h s).flagSet f = s.flagSet f := by
  simp [State.flagSet]

@[simp] theorem replied_management (n : NodePort) (frame : NodeFrame) (s : State) :
    (replied n frame s).management = s.management := rfl

@[simp] theorem replied_flagSet (n : NodePort) (frame : NodeFrame) (s : State) (f : Flag) :
    (replied n frame s).flagSet f = s.flagSet f := rfl

/-! ## The command -/

theorem exec_clearNotices_of_managedBy {h : ManageHeader} {s : State} (managed : s.managedBy h)
    (selection : FlagImage) :
    exec (.clearNotices h selection) s =
      .next (replied h.port (.manageReply h.tag 6 .ok 0 0 []) (clearFlags selection (heard h s))) :=
  congrArg Host.Outcome.next (manageOp_eq_replied managed rfl (by simpa using heard_up managed) 6)

/-- Settles O58, clause by clause: each flag against its bit of the selection, the rest of the management block, the
rest of the part (R181). The frame taken before the flags are cleared leaves the management block alone. -/
theorem clearNoticesClearsTheMarkedFlags : Obligations.ClearNoticesClearsTheMarkedFlags := by
  intro h selection s managed
  refine ⟨_, exec_clearNotices_of_managedBy managed selection, fun f => ?flags, ?block, ?rest⟩
  case flags => rw [replied_flagSet, clearFlags_flagSet, heard_flagSet]
  case block => rw [replied_management, ← heard_management h s, ← clearFlags_management]
  case rest => rw [replied_management, replied_clearFlags]

end Sys2Proof.Machine
end

section
/-! PROOFS. What every command keeps: one relation between the states before and after, for the laws of the part and
the tables that only their own writes change; its closure under the elementary updates of each block. -/

namespace Sys2Proof.Machine

/-! ## The relation -/

/-- The lock law (R154), but that a HELD lock of a pair that `ended` names may have lost its loan: so it stands between
the end of a loan and the release of the locks that it carried (R38, R56). -/
def State.LockLawBut (ended : Volume → NodePort → Prop) (s : State) : Prop :=
  (∀ k, (s.lockAt k).state = .held → ended (s.lockAt k).volume (s.lockAt k).holder ∨
    s.sharesVolume (s.lockAt k).volume (s.lockAt k).holder = true) ∧
    ∀ k l, (s.lockAt k).state = .held → (s.lockAt l).state = .held → (s.lockAt k).volume = (s.lockAt l).volume →
      (s.lockAt k).granule = (s.lockAt l).granule → k = l

/-- No pair. -/
def noPair : Volume → NodePort → Prop := fun _ _ => False

theorem State.lockLawBut_noPair {s : State} : s.LockLawBut noPair ↔ s.LockLaw := by
  simp [State.LockLawBut, State.LockLaw, noPair]

/-- A part of command c leads from s to t: it keeps each law of the part (the lock law up to the pairs whose loan has
ended, `e` before and `e'` after), and the tables that c does not load (R10, R170, R176, R178). -/
structure Keeps (c : Instr) (e e' : Volume → NodePort → Prop) (s t : State) : Prop where
  manager : s.ManagerLaw → t.ManagerLaw := by exact id
  credit : s.CreditLaw → t.CreditLaw := by exact id
  pair : s.LoanPairLaw → t.LoanPairLaw := by exact id
  mode : s.LoanModeLaw → t.LoanModeLaw := by exact id
  slot : s.SlotLaw → t.SlotLaw := by exact id
  waiter : s.WaiterLaw → t.WaiterLaw := by exact id
  disk : s.DiskLaw → t.DiskLaw := by exact id
  chain : s.ChainLaw → t.ChainLaw := by exact id
  claim : s.ClaimLaw → t.ClaimLaw := by exact id
  lock : s.LockLawBut e → t.LockLawBut e' := by exact id
  settings : c ≠ .powerOn → (∀ h i b, c ≠ .writeEntrySettings h i b) → t.settings = s.settings := by intros; rfl
  classMap : c ≠ .powerOn → (∀ h i b, c ≠ .writeEntryClassmap h i b) →
    t.management.classMap = s.management.classMap := by intros; rfl
  masks : c ≠ .powerOn → (∀ h i b, c ≠ .writeEntryNotice h i b) →
    t.management.masks = s.management.masks := by intros; rfl
  flags : c ≠ .powerOn → (∀ h sel, c ≠ .clearNotices h sel) →
    ∀ f, s.flagSet f = true → t.flagSet f = true := by intro _ _ _ hf; exact hf
  lost : replacesMap c = false → ∀ i, (s.mapEntry i).condition = .lost →
    (t.mapEntry i).stored = (s.mapEntry i).stored ∧ (t.mapEntry i).condition = .lost := by
      intro _ _ hl; exact ⟨rfl, hl⟩

variable {c : Instr} {e e' e'' : Volume → NodePort → Prop} {s t u : State}

theorem Keeps.refl (c : Instr) (e : Volume → NodePort → Prop) (s : State) : Keeps c e e s s := {}

theorem Keeps.trans (h : Keeps c e e' s t) (h' : Keeps c e' e'' t u) : Keeps c e e'' s u where
  manager := h'.manager ∘ h.manager
  credit := h'.credit ∘ h.credit
  pair := h'.pair ∘ h.pair
  mode := h'.mode ∘ h.mode
  slot := h'.slot ∘ h.slot
  waiter := h'.waiter ∘ h.waiter
  disk := h'.disk ∘ h.disk
  chain := h'.chain ∘ h.chain
  claim := h'.claim ∘ h.claim
  lock := h'.lock ∘ h.lock
  settings a b := (h'.settings a b).trans (h.settings a b)
  classMap a b := (h'.classMap a b).trans (h.classMap a b)
  masks a b := (h'.masks a b).trans (h.masks a b)
  flags a b f hf := h'.flags a b f (h.flags a b f hf)
  lost a i hl :=
    have ⟨e1, l1⟩ := h.lost a i hl
    have ⟨e2, l2⟩ := h'.lost a i l1
    ⟨e2.trans e1, l2⟩

/-- A fold of steps that each keep what a command keeps. -/
theorem Keeps.foldl {α : Type} {f : State → α → State} (h : ∀ u a, Keeps c e e u (f u a)) (l : List α) (s : State) :
    Keeps c e e s (l.foldl f s) := by
  induction l generalizing s with
  | nil => exact .refl ..
  | cons a l ih => exact (h s a).trans (ih _)

/-! ## Elementary updates: a block is replaced by one that keeps its own law -/

theorem Keeps.of_link {l : LinkBlock} (h : s.ManagerLaw → State.ManagerLaw { s with link := l }) :
    Keeps c e e s { s with link := l } := { manager := h }

theorem Keeps.of_admission {a : AdmissionBlock} (h : s.SlotLaw → State.SlotLaw { s with admission := a }) :
    Keeps c e e s { s with admission := a } := { slot := h }

theorem Keeps.of_meter {m : MeterBlock} (h : s.CreditLaw → State.CreditLaw { s with meter := m }) :
    Keeps c e e s { s with meter := m } := { credit := h }

/-- The claims and what stands beside the locks. -/
theorem Keeps.of_claims {b : LockBlock} (locks : b.locks = s.lock.locks)
    (h : s.ClaimLaw → State.ClaimLaw { s with lock := b }) : Keeps c e e s { s with lock := b } where
  claim := h
  lock := by simp only [State.LockLawBut, State.lockAt, State.sharesVolume, locks]; exact id

/-- The locks alone. -/
theorem Keeps.of_locks {b : Vector Lock 64}
    (h : s.LockLawBut e → State.LockLawBut e' { s with lock := { s.lock with locks := b } }) :
    Keeps c e e' s { s with lock := { s.lock with locks := b } } := { lock := h }

theorem Keeps.of_stages {x : StageBlock} {d : DispatchBlock}
    (waiter : s.WaiterLaw → State.WaiterLaw { s with stages := x, dispatch := d })
    (disk : s.DiskLaw → State.DiskLaw { s with stages := x, dispatch := d })
    (chain : s.ChainLaw → State.ChainLaw { s with stages := x, dispatch := d }) :
    Keeps c e e s { s with stages := x, dispatch := d } := { waiter, disk, chain }

theorem Keeps.of_draws (n : Nat) : Keeps c e e s { s with draws := n } := {}

theorem Keeps.of_volumes (v : Vector VolumeEntry 256) :
    Keeps c e e s { s with lending := { s.lending with volumes := v } } := {}

theorem Keeps.of_mapEntry {i : MapIdx} {r : MapEntry}
    (h : replacesMap c = false → (s.mapEntry i).condition = .lost → r.stored = (s.mapEntry i).stored ∧ r.condition = .lost) :
    Keeps c e e s (s.setMapEntry i r) where
  lost ordinary j lost := by
    by_cases hj : j = i
    · subst hj; simpa using h ordinary lost
    · rw [State.setMapEntry_mapEntry_ne _ _ _ _ hj]; exact ⟨rfl, lost⟩

/-- Settings, class map and masks as they were, and no flag cleared. -/
theorem Keeps.of_management {m : ManagementBlock} (settings : m.settings = s.management.settings)
    (classMap : m.classMap = s.management.classMap) (masks : m.masks = s.management.masks)
    (flags : ∀ f, s.flagSet f = true → State.flagSet { s with management := m } f = true) :
    Keeps c e e s { s with management := m } :=
  { settings := fun _ _ => settings, classMap := fun _ _ => classMap, masks := fun _ _ => masks,
    flags := fun _ _ => flags }

/-! ## Links and frames -/

theorem setNode_keeps {n : NodePort} {r : NodeLink} (h : r.manager = (s.node n).manager) :
    Keeps c e e s (s.setNode n r) where
  manager := by
    rintro ⟨m, hm⟩
    refine ⟨m, ?_⟩
    rw [State.setNode_node_eq]
    split
    · next he => subst he; rw [h]; exact hm
    · exact hm

theorem setDiskLink_keeps (d : DiskPort) (r : DiskLink) (s : State) : Keeps c e e s (s.setDiskLink d r) := {}

theorem produceNode_keeps (n : NodePort) (f : NodeFrame) (s : State) : Keeps c e e s (produceNode n f s) := by
  refine setNode_keeps ?_
  cases (s.node n).state <;> rfl

theorem produceDisk_keeps (d : DiskPort) (f : DiskFrame) (s : State) : Keeps c e e s (produceDisk d f s) :=
  setDiskLink_keeps ..

theorem recordDetail_keeps (f : Flag) (x : Nat) (s : State) : Keeps c e e s (recordDetail f x s) := by
  unfold recordDetail
  split
  case h_5 => exact .refl ..
  all_goals exact .of_management rfl rfl rfl fun _ h => h

theorem setFlag_keeps (f : Flag) (s : State) : Keeps c e e s (setFlag f s) :=
  .of_management rfl rfl rfl fun g h => by simp only [State.flagSet] at h ⊢; simp [h]

theorem noticeAll_keeps (f : Flag) (s : State) : Keeps c e e s (noticeAll f s) := by
  refine .foldl (fun u n => ?_) _ _
  unfold noticeTo
  split
  · exact produceNode_keeps ..
  · exact .refl ..

theorem raiseFlag_keeps (f : Flag) (x : Nat) (s : State) : Keeps c e e s (raiseFlag f x s) := by
  have recorded : Keeps c e e s (recordDetail f x s) := recordDetail_keeps ..
  obtain ⟨_, h⟩ | ⟨_, _, h⟩ | ⟨_, _, h⟩ := raiseFlag_cases f x s <;> rw [h]
  · exact recorded
  · exact recorded.trans ((setFlag_keeps ..).trans (noticeAll_keeps ..))
  · exact recorded.trans (setFlag_keeps ..)

theorem goodNodeFrame_keeps (n : NodePort) (s : State) : Keeps c e e s (goodNodeFrame n s) := by
  unfold goodNodeFrame
  dsimp only
  split
  · exact (setNode_keeps (by rfl)).trans (raiseFlag_keeps ..)
  · exact setNode_keeps (by rfl)

theorem goodDiskFrame_keeps (d : DiskPort) (s : State) : Keeps c e e s (goodDiskFrame d s) := setDiskLink_keeps ..

theorem damagedFrame_keeps (l : Link) (s : State) : Keeps c e e s (damagedFrame l s) := by
  cases l with
  | node n => exact setNode_keeps rfl
  | disk d => exact setDiskLink_keeps ..

theorem nodeLinkDown_keeps (n : NodePort) (s : State) : Keeps c e e s (nodeLinkDown n s) :=
  Keeps.trans (setNode_keeps (by rfl)) (.of_draws _)

theorem diskLinkDown_keeps (d : DiskPort) (x : List DiskFrame) (s : State) : Keeps c e e s (diskLinkDown d x s) :=
  Keeps.trans (setDiskLink_keeps ..) (.of_draws _)

theorem frameSentOn_keeps (l : Link) (s : State) : Keeps c e e s (frameSentOn l s) := by
  cases l with
  | node n =>
    refine setNode_keeps ?_
    cases (s.node n).finishing <;> rfl
  | disk d => exact setDiskLink_keeps ..

theorem loanNotice_keeps (i : LoanIdx) (x : NoticeState) (s : State) : Keeps c e e s (loanNotice i x s) := by
  unfold loanNotice
  split
  · exact produceNode_keeps ..
  · exact .refl ..

end Sys2Proof.Machine
end

section
/-! PROOFS. What every command keeps, continued: desks, meters, claims and locks. -/

namespace Sys2Proof.Machine

variable {c : Instr} {e e' e'' : Volume → NodePort → Prop} {s t u : State}

/-! ## Desks -/

/-- From x to y no slot came into use or changed its tag, and the wait list gained no slot that is not WAITING. -/
def Desk.Within (x y : Desk) : Prop :=
  (∀ k : SlotIdx, y.slots[k.val].state ≠ .free →
    x.slots[k.val].state ≠ .free ∧ y.slots[k.val].tag = x.slots[k.val].tag) ∧
  ∀ k ∈ y.waitList, k ∈ x.waitList ∧ (x.slots[k.val].state = .waiting → y.slots[k.val].state = .waiting)

theorem setDesk_keeps {n : NodePort} {x : Desk} (h : s.SlotLaw → (s.desk n).Within x) :
    Keeps c e e s (s.setDesk n x) := by
  refine .of_admission fun law m => ?_
  obtain ⟨used, waiting⟩ := h law
  obtain ⟨tags, list⟩ := law m
  change (∀ k l, ((s.setDesk n x).slot m k).state ≠ .free → ((s.setDesk n x).slot m l).state ≠ .free →
    ((s.setDesk n x).slot m k).tag = ((s.setDesk n x).slot m l).tag → k = l) ∧
    ∀ k ∈ ((s.setDesk n x).desk m).waitList, ((s.setDesk n x).slot m k).state = .waiting
  simp only [State.slot, State.setDesk_desk_eq]
  by_cases hm : m = n
  · subst hm
    simp only [if_true]
    refine ⟨fun k l hk hl same => ?_, fun k hk => ?_⟩
    · obtain ⟨hk, tk⟩ := used k hk
      obtain ⟨hl, tl⟩ := used l hl
      exact tags k l hk hl (by rw [State.slot, ← tk, same, tl]; rfl)
    · obtain ⟨old, kept⟩ := waiting k hk
      exact kept (list k old)
  · simp only [hm, if_false]
    exact ⟨tags, list⟩

theorem Desk.within_attempts (x : Desk) (a : Nat) : x.Within { x with attemptsDue := a } :=
  ⟨fun _ h => ⟨h, rfl⟩, fun _ h => ⟨h, id⟩⟩

/-- One slot is written: in use only if it was, with its tag, and off the list it leaves. -/
theorem Desk.within_set {x : Desk} {k : SlotIdx} {sl : Slot} {l : List SlotIdx}
    (used : sl.state ≠ .free → x.slots[k.val].state ≠ .free ∧ sl.tag = x.slots[k.val].tag)
    (list : ∀ j ∈ l, j ∈ x.waitList ∧ (j = k → sl.state = x.slots[k.val].state)) :
    x.Within { x with slots := x.slots.set k.val sl, waitList := l } := by
  refine ⟨fun j hj => ?_, fun j hj => ⟨(list j hj).1, fun w => ?_⟩⟩
  · by_cases hk : k = j
    · subst hk; simpa using used (by simpa using hj)
    · have : k.val ≠ j.val := fun h => hk (Fin.ext h)
      simp only [this, Vector.getElem_set, if_false] at hj ⊢
      exact ⟨hj, trivial⟩
  · by_cases hk : j = k
    · have same := (list j hj).2 hk
      subst hk; simpa [same] using w
    · have : k.val ≠ j.val := fun h => hk (Fin.ext h.symm)
      simpa [this, Vector.getElem_set] using w

theorem startAttempt_keeps (n : NodePort) (s : State) : Keeps c e e s (startAttempt n s) :=
  setDesk_keeps fun _ => Desk.within_attempts _ _

theorem noteHead_keeps (n : NodePort) (before s : State) : Keeps c e e s (noteHead n before s) := by
  obtain ⟨_, h⟩ | ⟨_, _, _, h⟩ | ⟨_, _, _, h⟩ := noteHead_cases n before s <;> rw [h]
  · exact setDesk_keeps fun _ => Desk.within_attempts _ _
  · exact .refl ..
  · exact startAttempt_keeps ..

theorem freeSlot_keeps (n : NodePort) (k : SlotIdx) (s : State) : Keeps c e e s (freeSlot n k s) :=
  setDesk_keeps fun _ => Desk.within_set (by simp [Slot.freed]) (by simp +contextual)

/-- A slot is written with its state and its tag. -/
theorem setSlot_keeps {n : NodePort} {k : SlotIdx} {x : Slot} (state : x.state = (s.slot n k).state)
    (tag : x.tag = (s.slot n k).tag) : Keeps c e e s (s.setSlot n k x) :=
  setDesk_keeps fun _ =>
    Desk.within_set (x := s.desk n) (fun h => ⟨by rwa [state] at h, tag⟩) fun _ hj => ⟨hj, fun _ => state⟩

theorem waitHead_keeps (n : NodePort) (k : SlotIdx) (w : WaitFor) (s : State) : Keeps c e e s (waitHead n k w s) :=
  setSlot_keeps rfl rfl

/-- The head that is admitted was in use, since it was on the wait list. -/
theorem admitSlot_keeps {n : NodePort} {k : SlotIdx} (head : k ∈ (s.desk n).waitList) (pieces : Nat) :
    Keeps c e e s (admitSlot n k pieces s) :=
  setDesk_keeps fun law =>
    Desk.within_set (fun _ => ⟨by have := (law n).2 k head; rw [State.slot] at this; simp [this], rfl⟩)
      (by simp +contextual)

/-- A REQUEST is accepted into a FREE slot under a tag that no slot in use carries. -/
theorem acceptRequest_keeps {n : NodePort} {k : SlotIdx} {f : RequestFrame}
    (free : (s.slot n k).state = .free) (newTag : ∀ l, (s.slot n l).state ≠ .free → (s.slot n l).tag ≠ f.tag)
    (kind : ReqKind) : Keeps c e e s (acceptRequest n k kind f s) := by
  refine .of_admission fun law m => ?_
  obtain ⟨tags, list⟩ := law m
  change (∀ i l, ((acceptRequest n k kind f s).slot m i).state ≠ .free →
    ((acceptRequest n k kind f s).slot m l).state ≠ .free →
    ((acceptRequest n k kind f s).slot m i).tag = ((acceptRequest n k kind f s).slot m l).tag → i = l) ∧
    ∀ i ∈ ((acceptRequest n k kind f s).desk m).waitList, ((acceptRequest n k kind f s).slot m i).state = .waiting
  by_cases hm : m = n
  · subst hm
    have other : ∀ i, i ≠ k → (acceptRequest m k kind f s).slot m i = s.slot m i := fun i hi => by
      have : k.val ≠ i.val := fun h => hi (Fin.ext h.symm)
      simp [acceptRequest, State.slot, this]
    have own : ((acceptRequest m k kind f s).slot m k).tag = f.tag ∧
        ((acceptRequest m k kind f s).slot m k).state = .waiting := by simp [acceptRequest, State.slot]
    refine ⟨fun i l hi hl same => ?_, fun i hi => ?_⟩
    · by_cases ik : i = k <;> by_cases lk : l = k
      · rw [ik, lk]
      · subst ik
        rw [other l lk] at hl same
        exact absurd (same.symm.trans own.1) (newTag l hl)
      · subst lk
        rw [other i ik] at hi same
        exact absurd (same.trans own.1) (newTag i hi)
      · rw [other i ik] at hi same
        rw [other l lk] at hl same
        exact tags i l hi hl same
    · by_cases ik : i = k
      · rw [ik]; exact own.2
      · rw [other i ik]
        exact list i (by simpa [acceptRequest, ik] using hi)
  · have : (acceptRequest n k kind f s).desk m = s.desk m := State.setDesk_desk_ne _ _ _ _ hm
    simp only [State.slot, this]
    exact ⟨tags, list⟩

theorem arrive_keeps (n : NodePort) (f : RequestFrame) (s : State) : Keeps c e e s (arrive n f s) := by
  unfold arrive
  split
  · exact produceNode_keeps ..
  split
  · exact produceNode_keeps ..
  next unused =>
  split
  · exact produceNode_keeps ..
  next k found =>
  split
  · exact produceNode_keeps ..
  · refine Keeps.trans (acceptRequest_keeps ?_ ?_ _) (noteHead_keeps ..)
    · simpa [State.slot] using (tableFind_eq_some.mp found).1
    · intro l used tag
      exact unused (tableAny_iff.mpr ⟨l, by simpa [State.slot] using ⟨used, tag⟩⟩)

/-! ## Meters -/

theorem setMeter_keeps {n : NodePort} {m : Meter}
    (h : (s.meterOf n).credit ≤ (s.meterOf n).burst → m.credit ≤ m.burst) : Keeps c e e s (s.setMeter n m) :=
  .of_meter fun law i => by
    change ((s.setMeter n m).meterOf i).credit ≤ ((s.setMeter n m).meterOf i).burst
    rw [State.setMeter_meterOf_eq]
    split
    · exact h (law n)
    · exact law i

theorem refillNode_keeps (n : NodePort) (s : State) : Keeps c e e s (refillNode n s) := by
  have refilled : Keeps c e e s (s.setMeter n (s.meterOf n).refill) := setMeter_keeps fun _ => Nat.min_le_right ..
  unfold refillNode
  dsimp only
  split
  · split
    · exact refilled.trans (startAttempt_keeps ..)
    · exact refilled
  · exact .refl ..

theorem charge_keeps (n : NodePort) (length : Nat) (s : State) : Keeps c e e s (charge n length s) := by
  unfold charge
  split
  · exact setMeter_keeps fun h => (Nat.sub_le ..).trans h
  · exact .refl ..

theorem setTally_keeps (n : NodePort) (x : Tally) (s : State) : Keeps c e e s (s.setTally n x) := .of_meter id

theorem tallyStep_keeps (s : State) : Keeps c e e s (tallyStep s) := by
  unfold tallyStep
  dsimp only
  split
  · refine Keeps.trans ?_ (raiseFlag_keeps ..)
    exact .of_meter id
  · exact .of_meter id

theorem tallyAtExpiry_keeps (s : State) : Keeps c e e s (tallyAtExpiry s) := by
  unfold tallyAtExpiry
  split <;> exact .of_meter id

theorem meterClock_keeps (k : Clock) (s : State) : Keeps c e e s { s with meter := { s.meter with clock := k } } :=
  .of_meter id

theorem meterExpiry_keeps (s : State) : Keeps c e e s (meterExpiry s) :=
  (Keeps.foldl (fun u n => refillNode_keeps n u) nodePorts s).trans (meterClock_keeps ..)

/-! ## Map reads -/

theorem readMapEntry_keeps (i : MapIdx) (s : State) : Keeps c e e s (readMapEntry i s) := by
  obtain ⟨_, h⟩ | ⟨original, condition, h⟩ | ⟨_, h⟩ := readMapEntry_cases i s <;> rw [h]
  · exact .of_mapEntry fun _ lost => ⟨rfl, lost⟩
  · exact Keeps.trans (.of_mapEntry fun _ lost => by simp [condition] at lost) (raiseFlag_keeps ..)
  · exact .of_mapEntry fun _ lost => ⟨rfl, lost⟩

theorem raiseMapFault_keeps (kind : ReqKind) (i : Nat) (s : State) : Keeps c e e s (raiseMapFault kind i s) := by
  unfold raiseMapFault
  dsimp only
  split
  · exact (raiseFlag_keeps ..).trans (raiseFlag_keeps ..)
  · exact raiseFlag_keeps ..

theorem scanMap_keeps (kind : ReqKind) (v : Volume) (g k i : Nat) (s : State) :
    Keeps c e e s (scanMap kind v g k i s).1 := by
  induction k generalizing i s with
  | zero => exact .refl ..
  | succ k ih =>
    unfold scanMap
    split
    · dsimp only
      split
      · exact (readMapEntry_keeps ..).trans (raiseMapFault_keeps ..)
      split
      · exact readMapEntry_keeps ..
      · exact (readMapEntry_keeps ..).trans (ih ..)
    · exact .refl ..

theorem translateCut_keeps (kind : ReqKind) (v : Volume) (x : Cut) (s : State) :
    Keeps c e e s (translateCut kind v x s).1 := by
  have scanned := scanMap_keeps (c := c) (e := e) kind v x.granule (s.volume v).extents (s.volume v).first.val s
  unfold translateCut
  split
  · next h => rwa [h] at scanned
  · next h =>
    rw [h] at scanned
    split <;> exact scanned

theorem translateAll_keeps (kind : ReqKind) (v : Volume) (cs : List Cut) (s : State) :
    Keeps c e e s (translateAll kind v cs s).1 := by
  induction cs generalizing s with
  | nil => exact .refl ..
  | cons x cs ih =>
    have first := translateCut_keeps (c := c) (e := e) kind v x s
    unfold translateAll
    split
    · next h => rwa [h] at first
    · next s1 p h =>
      rw [h] at first
      have rest := first.trans (ih s1)
      split <;> next h' => rwa [h'] at rest

theorem raiseInFlight_keeps (v : Volume) (n : Nat) (s : State) : Keeps c e e s (raiseInFlight v n s) := .of_volumes _

theorem lowerInFlight_keeps (v : Volume) (n : Nat) (s : State) : Keeps c e e s (lowerInFlight v n s) := .of_volumes _

end Sys2Proof.Machine
end

section
/-! PROOFS. What every command keeps, continued: claims, locks and loans. -/

namespace Sys2Proof.Machine

variable {c : Instr} {e e' e'' : Volume → NodePort → Prop} {s t u : State}

/-! ## Claims (8.6) -/

/-- Claims leave, or one that was pending becomes the active one: the law of claims stays. -/
theorem State.ClaimLaw.of_sublist {b : LockBlock} (law : s.ClaimLaw)
    (nodes : (State.claimNodes { s with lock := b }).Sublist s.claimNodes)
    (pending : b.pendingClaims.length ≤ s.lock.pendingClaims.length)
    (active : b.active = none → b.pendingClaims = []) : State.ClaimLaw { s with lock := b } :=
  ⟨pending.trans law.1, nodes.nodup law.2.1, active⟩

theorem handOff_keeps (s : State) : Keeps c e e s (handOff s) := by
  unfold handOff
  split
  · exact .of_claims rfl fun law => law.of_sublist (by simp [State.claimNodes]) (by simp) (fun _ => rfl)
  · next x rest h =>
    have suffix : (x :: rest).Sublist s.lock.pendingClaims := h ▸ List.dropWhile_sublist _
    refine Keeps.trans ?_ (raiseFlag_keeps ..)
    refine .of_claims rfl fun law => law.of_sublist ?_ ?_ (by simp)
    · exact (suffix.map (·.node)).trans (List.sublist_append_right ..)
    · exact (List.sublist_of_cons_sublist suffix).length_le

theorem dropClaims_keeps (p : Claim → Bool) (s : State) : Keeps c e e s (dropClaims p s) := by
  have dropped : Keeps c e e s
      { s with lock := { s.lock with pendingClaims := s.lock.pendingClaims.filter fun c => !p c } } := by
    refine .of_claims rfl fun law => law.of_sublist ?_ (List.length_filter_le ..) fun none => ?_
    · exact (List.Sublist.refl _).append (List.filter_sublist.map _)
    · simp [law.2.2 none]
  unfold dropClaims
  dsimp only
  split
  · exact dropped
  · split
    · exact dropped.trans (handOff_keeps _)
    · exact dropped

theorem setRetry_keeps (n : NodePort) (x : Nat) (s : State) : Keeps c e e s (s.setRetry n x) := .of_claims rfl id

theorem activateClaim_keeps {x : Claim} (idle : s.lock.active = none) : Keeps c e e s (activateClaim x s) := by
  refine Keeps.trans ?_ (raiseFlag_keeps ..)
  refine .of_claims rfl fun law => ?_
  simp [State.ClaimLaw, State.claimNodes, law.2.2 idle]

theorem judgeClaim_keeps (x : Claim) (s : State) : Keeps c e e s (judgeClaim x s) := by
  unfold judgeClaim
  split
  · exact .refl ..
  split
  · next idle => exact activateClaim_keeps idle
  · next a active =>
    split
    · exact .refl ..
    · next fresh =>
      refine .of_claims rfl fun law => ?_
      obtain ⟨_, nodup, _⟩ := law
      simp only [not_or, List.any_eq_true, beq_iff_eq, not_exists, not_and, not_le] at fresh
      obtain ⟨notActive, notPending, room⟩ := fresh
      refine ⟨by simp; omega, ?_, by simp [active]⟩
      simp only [State.claimNodes, active, Option.map_some, Option.toList_some, List.map_append, List.map_cons,
        List.map_nil, List.cons_append, List.nil_append, List.nodup_cons, List.mem_append, List.mem_map,
        List.mem_singleton] at nodup ⊢
      refine ⟨?_, List.nodup_append.mpr ⟨nodup.2, by simp, ?_⟩⟩
      · rintro (h | h)
        · exact nodup.1 h
        · exact notActive h
      · simp only [List.mem_map, List.mem_singleton]
        rintro _ ⟨y, hy, rfl⟩ _ rfl same
        exact notPending y hy same

theorem countRetry_keeps (n : NodePort) (v : Volume) (g : Nat) (s : State) : Keeps c e e s (countRetry n v g s) :=
  (setRetry_keeps ..).trans (judgeClaim_keeps ..)

/-- The active claim's timer is no part of the law of claims. -/
theorem setTimer_keeps {a : ActiveClaim} (active : s.lock.active = some a) (x : Nat) (owed : Bool) :
    Keeps c e e s { s with lock := { s.lock with active := some { a with timer := x }, timerOwed := owed } } :=
  .of_claims rfl fun law => law.of_sublist (by simp [State.claimNodes, active]) (by simp) (by simp)

theorem timerOwed_keeps (owed : Bool) (s : State) : Keeps c e e s { s with lock := { s.lock with timerOwed := owed } } :=
  .of_claims rfl id

theorem timerStep_keeps (s : State) : Keeps c e e s (timerStep s) := by
  unfold timerStep
  dsimp only
  split
  · exact timerOwed_keeps ..
  · next a active =>
    split
    · exact (timerOwed_keeps false s).trans ((setRetry_keeps ..).trans (handOff_keeps _))
    · exact setTimer_keeps active ..

theorem timerAtExpiry_keeps (s : State) : Keeps c e e s (timerAtExpiry s) := by
  unfold timerAtExpiry
  split
  · exact .refl ..
  · next a active =>
    split
    · exact timerOwed_keeps ..
    · exact setTimer_keeps active _ s.lock.timerOwed

/-! ## Locks -/

/-- Every lock that is HELD was held on the same granule of the same volume by the same node, and the pairs whose loan
has ended still count as ended where they hold one. -/
theorem Keeps.of_held {b : Vector Lock 64}
    (h : ∀ k : LockIdx, b[k.val].state = .held → (s.lockAt k).state = .held ∧ b[k.val].volume = (s.lockAt k).volume ∧
      b[k.val].granule = (s.lockAt k).granule ∧ b[k.val].holder = (s.lockAt k).holder ∧
      (e (s.lockAt k).volume (s.lockAt k).holder → e' (s.lockAt k).volume (s.lockAt k).holder)) :
    Keeps c e e' s { s with lock := { s.lock with locks := b } } := by
  refine .of_locks fun law => ⟨fun k hk => ?_, fun k l hk hl hv hg => ?_⟩
  · obtain ⟨held, volume, _, holder, ended⟩ := h k hk
    change e' b[k.val].volume b[k.val].holder ∨ s.sharesVolume b[k.val].volume b[k.val].holder = true
    rw [volume, holder]
    exact (law.1 k held).imp_left ended
  · obtain ⟨heldk, vk, gk, _⟩ := h k hk
    obtain ⟨heldl, vl, gl, _⟩ := h l hl
    exact law.2 k l heldk heldl (vk.symm.trans (hv.trans vl)) (gk.symm.trans (hg.trans gl))

/-- One lock is written: HELD only if it was, on the same granule by the same node. -/
theorem setLock_keeps {k : LockIdx} {x : Lock}
    (h : x.state = .held → (s.lockAt k).state = .held ∧ x.volume = (s.lockAt k).volume ∧
      x.granule = (s.lockAt k).granule ∧ x.holder = (s.lockAt k).holder) : Keeps c e e s (s.setLock k x) := by
  refine .of_held fun j hj => ?_
  change ((s.setLock k x).lockAt j).state = .held at hj
  change (s.lockAt j).state = .held ∧ ((s.setLock k x).lockAt j).volume = _ ∧ ((s.setLock k x).lockAt j).granule = _ ∧
    ((s.setLock k x).lockAt j).holder = _ ∧ _
  by_cases hk : j = k
  · subst hk
    simp only [State.setLock_lockAt] at hj ⊢
    obtain ⟨held, volume, granule, holder⟩ := h hj
    exact ⟨held, volume, granule, holder, id⟩
  · rw [State.setLock_lockAt_ne _ _ _ _ hk] at hj ⊢
    exact ⟨hj, rfl, rfl, rfl, id⟩

theorem mapLocks_keeps {f : Lock → Lock}
    (h : ∀ x, (f x).state = .held → x.state = .held ∧ (f x).volume = x.volume ∧ (f x).granule = x.granule ∧
      (f x).holder = x.holder ∧ (e x.volume x.holder → e' x.volume x.holder)) :
    Keeps c e e' s { s with lock := { s.lock with locks := tableMap f s.lock.locks } } :=
  .of_held fun k hk => by
    rw [tableMap_getElem] at hk ⊢
    exact h _ hk

/-- The release of the locks of the pairs whose loan has ended makes the lock law whole (R38, R56). -/
theorem freeLocks_keeps {p : Lock → Bool} (released : ∀ x, x.state = .held → e x.volume x.holder → p x = true) :
    Keeps c e noPair s (freeLocks p s) := by
  refine mapLocks_keeps fun x held => ?_
  by_cases hp : p x = true
  · simp [hp, Lock.freed] at held
  · simp only [hp] at held ⊢
    exact ⟨held, rfl, rfl, rfl, fun ended => hp (released x held ended)⟩

theorem lockStep_keeps (k : LockIdx) (s : State) : Keeps c e e s (lockStep k s) := by
  cases h : (s.lockAt k).state with
  | free =>
    simp only [lockStep, h]
    exact setLock_keeps (by simp [h])
  | held =>
    rw [lockStep_held h]
    split
    · exact (setLock_keeps (by simp)).trans (raiseFlag_keeps ..)
    · exact setLock_keeps (by simp [h])

/-- A lock is taken on a granule that no HELD lock names, by a node with a SHARED-UPDATE loan in force (R155). -/
theorem takeLock_keeps {n : NodePort} {v : Volume} {g : Nat} (shares : s.sharesVolume v n = true)
    (noLock : s.lockOn v g = none) : Keeps c e e s (takeLock n v g s) := by
  unfold takeLock
  split
  · exact .refl ..
  next k found =>
  refine Keeps.trans ?_ ((setRetry_keeps ..).trans (dropClaims_keeps ..))
  have unnamed : ∀ l, (s.lockAt l).state = .held → (s.lockAt l).volume = v → (s.lockAt l).granule ≠ g := by
    intro l held volume granule
    have := tableFind_eq_none.mp noLock l
    simp [State.lockAt] at held volume granule this
    exact this held volume granule
  refine .of_locks fun law => ?_
  change State.LockLawBut e (s.setLock k _)
  refine ⟨fun j hj => ?_, fun j l hj hl hv hg => ?_⟩
  · by_cases hk : j = k
    · subst hk
      rw [State.setLock_lockAt]
      exact .inr shares
    · rw [State.setLock_lockAt_ne _ _ _ _ hk] at hj ⊢
      exact law.1 j hj
  · by_cases jk : j = k <;> by_cases lk : l = k
    · rw [jk, lk]
    · subst jk
      rw [State.setLock_lockAt_ne _ _ _ _ lk] at hl hv hg
      rw [State.setLock_lockAt] at hv hg
      exact absurd hg.symm (unnamed l hl hv.symm)
    · subst lk
      rw [State.setLock_lockAt_ne _ _ _ _ jk] at hj hv hg
      rw [State.setLock_lockAt] at hv hg
      exact absurd hg (unnamed j hj hv)
    · rw [State.setLock_lockAt_ne _ _ _ _ jk] at hj hv hg
      rw [State.setLock_lockAt_ne _ _ _ _ lk] at hl hv hg
      exact law.2 j l hj hl hv hg

theorem giveLock_keeps (n : NodePort) (v : Volume) (g : Nat) (s : State) : Keeps c e e s (giveLock n v g s) := by
  unfold giveLock
  split
  · exact .refl ..
  · split
    · exact setLock_keeps (by simp [Lock.freed])
    · exact .refl ..

/-! ## Loans -/

/-- From x to y a loan keeps its pair and its mode, and comes neither into use nor into force. -/
def Loan.Within (x y : Loan) : Prop :=
  y.volume = x.volume ∧ y.node = x.node ∧ y.mode = x.mode ∧ (y.state ≠ .free → x.state ≠ .free) ∧
    (y.inForce = true → x.inForce = true)

/-- No loan comes into force, and those of the pairs that `ended` does not name stay there. -/
theorem Keeps.of_loans {b : Vector Loan 512} (within : ∀ i : LoanIdx, (s.loanAt i).Within b[i.val])
    (stay : ∀ i : LoanIdx, (s.loanAt i).inForce = true → e (s.loanAt i).volume (s.loanAt i).node ∨ b[i.val].inForce = true) :
    Keeps c noPair e s { s with loan := { s.loan with loans := b } } where
  pair law i j hi hj hv hn := by
    obtain ⟨vi, ni, _, usedi, _⟩ := within i
    obtain ⟨vj, nj, _, usedj, _⟩ := within j
    exact law i j (usedi hi) (usedj hj) (vi.symm.trans (hv.trans vj)) (ni.symm.trans (hn.trans nj))
  mode law i j ij hi hj hv hm := by
    obtain ⟨vi, _, mi, _, forcei⟩ := within i
    obtain ⟨vj, _, mj, _, forcej⟩ := within j
    exact mj.trans (law i j ij (forcei hi) (forcej hj) (vi.symm.trans (hv.trans vj)) (mi.symm.trans hm))
  lock law := by
    refine ⟨fun k hk => ?_, law.2⟩
    obtain ended | shares := law.1 k hk
    · exact ended.elim
    · obtain ⟨i, hi⟩ := tableAny_iff.mp shares
      obtain ⟨vi, ni, mi, _, _⟩ := within i
      simp only [Loan.ofPair, Bool.and_eq_true, beq_iff_eq] at hi
      obtain ⟨⟨force, volume, node⟩, mode⟩ := hi
      obtain ended | force' := stay i force
      · left
        change e (s.lockAt k).volume (s.lockAt k).holder
        rw [← volume, ← node]
        exact ended
      · right
        refine tableAny_iff.mpr ⟨i, ?_⟩
        simp only [Loan.ofPair, Bool.and_eq_true, beq_iff_eq]
        exact ⟨⟨force', vi.trans volume, ni.trans node⟩, mi.trans mode⟩

/-- One loan is written, ending at most its own pair's loan in force. -/
theorem setLoan_keeps {i : LoanIdx} {x : Loan} (within : (s.loanAt i).Within x)
    (stay : (s.loanAt i).inForce = true → e (s.loanAt i).volume (s.loanAt i).node ∨ x.inForce = true) :
    Keeps c noPair e s (s.setLoan i x) := by
  refine .of_loans (fun j => ?_) fun j => ?_
  · change (s.loanAt j).Within ((s.setLoan i x).loanAt j)
    rw [State.setLoan_loanAt_eq]
    split
    · next h => subst h; exact within
    · exact ⟨rfl, rfl, rfl, id, id⟩
  · change _ → _ ∨ ((s.setLoan i x).loanAt j).inForce = true
    rw [State.setLoan_loanAt_eq]
    split
    · next h => subst h; exact stay
    · exact .inr

theorem mapLoans_keeps {f : Loan → Loan} (within : ∀ x : Loan, x.Within (f x))
    (stay : ∀ x : Loan, x.inForce = true → e x.volume x.node ∨ (f x).inForce = true) :
    Keeps c noPair e s { s with loan := { s.loan with loans := tableMap f s.loan.loans } } :=
  .of_loans (fun i => by rw [tableMap_getElem]; exact within _) fun i => by rw [tableMap_getElem]; exact stay _

theorem loanClock_keeps (k : Clock) (s : State) : Keeps c e e s { s with loan := { s.loan with clock := k } } := {}

/-- The grant of R29 and R30: the checks that pass leave no loan in force that the new one may not stand beside. -/
theorem grant_keeps (v : Volume) (n : NodePort) (m : LoanMode) (term : Nat) (s : State) :
    Keeps c noPair noPair s (grant v n m term s).1 := by
  unfold grant
  split
  · exact .refl ..
  next passed =>
  split
  · exact .refl ..
  next i entry =>
  have notDuplicate : ∀ j, (s.loanAt j).inForce = true → ¬((s.loanAt j).volume = v ∧ (s.loanAt j).node = n) := by
    intro j force pair
    have : tableAny s.loan.loans (fun l => l.inForce && l.ofPair v n) = true :=
      tableAny_iff.mpr ⟨j, by simpa [Loan.ofPair, State.loanAt] using ⟨force, pair⟩⟩
    simp [grantCheck, this] at passed
  have beside : ∀ j, (s.loanAt j).inForce = true → (s.loanAt j).volume = v →
      (m = .write → (s.loanAt j).mode = .read) ∧ (m = .sharedUpdate → (s.loanAt j).mode ≠ .write) := by
    intro j force volume
    unfold grantCheck at passed
    split at passed
    · cases passed
    split at passed
    · cases passed
    next noWrite =>
    split at passed
    · cases passed
    next noShared =>
    constructor
    · rintro rfl
      by_contra mode
      have : (s.loanAt j).mode = .write ∨ (s.loanAt j).mode = .sharedUpdate := by
        cases h : (s.loanAt j).mode <;> simp [h] at mode ⊢
      exact noWrite (by
        simpa using tableAny_iff.mpr ⟨j, by simpa [State.loanAt] using ⟨⟨force, volume⟩, this⟩⟩)
    · rintro rfl mode
      exact noShared (by simpa using tableAny_iff.mpr ⟨j, by simpa [State.loanAt] using ⟨⟨force, volume⟩, mode⟩⟩)
  have own : ((s.loanAt i).state ≠ .free → (s.loanAt i).volume = v ∧ (s.loanAt i).node = n) ∧
      (s.loanAt i).inForce = false ∧
      ((s.loanAt i).state = .free → ∀ j, (s.loanAt j).state ≠ .free → (s.loanAt j).inForce = false →
        ¬((s.loanAt j).volume = v ∧ (s.loanAt j).node = n)) := by
    unfold grantEntry at entry
    split at entry
    · next j found =>
      cases entry
      have := (tableFind_eq_some.mp found).1
      simp only [Loan.ofPair, Bool.and_eq_true, Bool.or_eq_true, beq_iff_eq] at this
      obtain ⟨state, pair⟩ := this
      refine ⟨fun _ => pair, ?_, fun free => ?_⟩
      · rcases state with h | h <;> simp [Loan.inForce, State.loanAt, h]
      · rcases state with h | h <;> simp [State.loanAt, h] at free
    · next none =>
      have free : (s.loanAt i).state = .free := by simpa [State.loanAt] using (tableFind_eq_some.mp entry).1
      refine ⟨fun h => absurd free h, by simp [Loan.inForce, free], fun _ j used ended pair => ?_⟩
      have := tableFind_eq_none.mp none j
      simp [Loan.ofPair, Loan.inForce, State.loanAt] at this used ended pair
      cases h : s.loan.loans[j.val].state <;> simp_all
  obtain ⟨ownPair, notInForce, noOther⟩ := own
  dsimp only
  set x : Loan := { state := .active, volume := v, node := n, mode := m, term := term, age := 0, owed := false }
  have read : ∀ j, ((s.setLoan i x).loanAt j) = if j = i then x else s.loanAt j := State.setLoan_loanAt_eq s i x
  have noPairElse : s.LoanPairLaw → ∀ j, j ≠ i → (s.loanAt j).state ≠ .free →
      ¬((s.loanAt j).volume = v ∧ (s.loanAt j).node = n) := by
    intro law j ji used pair
    cases force : (s.loanAt j).inForce with
    | true => exact notDuplicate j force pair
    | false =>
      by_cases free : (s.loanAt i).state = .free
      · exact noOther free j used force pair
      · obtain ⟨hv, hn⟩ := ownPair free
        exact ji (law j i used free (pair.1.trans hv.symm) (pair.2.trans hn.symm))
  refine { pair := fun law j l hj hl hv hn => ?_, mode := fun law j l jl hj hl hv hm => ?_, lock := fun law => ?_ }
  · simp only [read] at hj hl hv hn
    by_cases ji : j = i <;> by_cases li : l = i
    · rw [ji, li]
    · simp only [ji, li, if_true, if_false] at hl hv hn
      exact absurd ⟨hv.symm, hn.symm⟩ (noPairElse law l li hl)
    · simp only [ji, li, if_true, if_false] at hj hv hn
      exact absurd ⟨hv, hn⟩ (noPairElse law j ji hj)
    · simp only [ji, li, if_false] at hj hl hv hn
      exact law j l hj hl hv hn
  · simp only [read] at hj hl hv hm ⊢
    by_cases ji : j = i <;> by_cases li : l = i
    · exact absurd (ji.trans li.symm) jl
    · simp only [ji, li, if_true, if_false] at hl hv hm ⊢
      exact (beside l hl hv.symm).1 hm
    · simp only [ji, li, if_true, if_false] at hj hv hm ⊢
      have := (beside j hj hv).2
      have := (beside j hj hv).1
      change m = .read
      cases h : m <;> simp_all
    · simp only [ji, li, if_false] at hj hl hv hm ⊢
      exact law j l jl hj hl hv hm
  · refine ⟨fun k hk => (law.1 k hk).imp_right fun shares => ?_, law.2⟩
    obtain ⟨j, hj⟩ := tableAny_iff.mp shares
    have ji : j ≠ i := by
      rintro rfl
      simp [State.loanAt] at notInForce
      simp [notInForce] at hj
    refine tableAny_iff.mpr ⟨j, ?_⟩
    have := read j
    simp only [ji, if_false, State.loanAt] at this
    rw [this]
    exact hj

theorem renewPair_keeps (v : Volume) (n : NodePort) (s : State) : Keeps c noPair noPair s (renewPair v n s) := by
  unfold renewPair
  split
  · exact produceNode_keeps ..
  next i _ =>
  split
  · exact produceNode_keeps ..
  · refine Keeps.trans ?_ (produceNode_keeps ..)
    exact setLoan_keeps ⟨rfl, rfl, rfl, id, id⟩ .inr
  · next due =>
    refine Keeps.trans ?_ (produceNode_keeps ..)
    exact setLoan_keeps ⟨rfl, rfl, rfl, by simp [due], by simp [due, Loan.inForce]⟩ fun _ => .inr (by simp [Loan.inForce])
  · exact produceNode_keeps ..
  · exact produceNode_keeps ..

end Sys2Proof.Machine
end

section
/-! PROOFS. Stages and lanes: what each operation makes of a stage, of the order of creation and of a disk record; and
that each keeps what every command keeps. -/

namespace Sys2Proof.Machine

variable {c : Instr} {e e' e'' : Volume → NodePort → Prop} {s t u : State}

/-! ## Rules -/

theorem leaveLanes_disk (d : DiskPort) (i : StageIdx) (s : State) (m : DiskPort) :
    (leaveLanes d i s).disk m =
      if m = d then { s.disk d with lanes := tableMap (fun l => l.filter (· != i)) (s.disk d).lanes } else s.disk m :=
  State.setDisk_disk_eq ..

theorem laneTail_disk (d : DiskPort) (x : Class) (i : StageIdx) (s : State) (m : DiskPort) :
    (laneTail d x i s).disk m =
      if m = d then { s.disk d with lanes := (s.disk d).lanes.set x.val ((s.disk d).lanes[x.val] ++ [i]) }
      else s.disk m := State.setDisk_disk_eq ..

theorem laneFront_disk (d : DiskPort) (x : Class) (i : StageIdx) (s : State) (m : DiskPort) :
    (laneFront d x i s).disk m =
      if m = d then { s.disk d with lanes := (s.disk d).lanes.set x.val (i :: (s.disk d).lanes[x.val]) }
      else s.disk m := State.setDisk_disk_eq ..

@[simp] theorem leaveLanes_stages (d : DiskPort) (i : StageIdx) (s : State) : (leaveLanes d i s).stages = s.stages := rfl

@[simp] theorem leaveLanes_stage (d : DiskPort) (i j : StageIdx) (s : State) : (leaveLanes d i s).stage j = s.stage j := rfl

theorem freeStage_stage (i j : StageIdx) (s : State) :
    (freeStage i s).stage j = if j = i then (s.stage i).freed else s.stage j :=
  State.setStage_stage_eq s i (s.stage i).freed j

@[simp] theorem freeStage_order (i : StageIdx) (s : State) :
    (freeStage i s).stages.order = s.stages.order.filter (· != i) := rfl

theorem freeStage_disk (i : StageIdx) (s : State) (d : DiskPort) :
    (freeStage i s).disk d =
      if d = (s.stage i).disk then { s.disk d with lanes := tableMap (fun l => l.filter (· != i)) (s.disk d).lanes }
      else s.disk d := by
  have h := leaveLanes_disk (s.stage i).disk i
    { s.setStage i (s.stage i).freed with
      stages := { (s.setStage i (s.stage i).freed).stages with order := s.stages.order.filter (· != i) } } d
  refine h.trans ?_
  split
  · next hd => subst hd; rfl
  · rfl

/-- The stage that a piece of a request has left (R124, R125): freed or abandoned where nobody is left. -/
def Stage.detached (st : Stage) (n : NodePort) (k : SlotIdx) : Stage :=
  if (st.without n k).deserted then
    match st.state with
    | .free => st.without n k
    | .queued | .retrying => st.freed
    | .sent | .accepted | .streaming => { st.without n k with abandoned := true }
  else st.without n k

theorem Stage.without_fields (st : Stage) (n : NodePort) (k : SlotIdx) :
    (st.without n k).state = st.state ∧ (st.without n k).disk = st.disk ∧ (st.without n k).granule = st.granule ∧
      (st.without n k).kind = st.kind ∧ (st.without n k).freed = st.freed ∧
      (st.without n k).abandoned = st.abandoned := by
  unfold Stage.without
  split <;> exact ⟨rfl, rfl, rfl, rfl, rfl, rfl⟩

theorem setStage_setStage (i : StageIdx) (x y : Stage) (s : State) : (s.setStage i x).setStage i y = s.setStage i y := by
  simp [State.setStage]

theorem freeStage_setStage {i : StageIdx} {x : Stage} (freed : x.freed = (s.stage i).freed)
    (disk : x.disk = (s.stage i).disk) : freeStage i (s.setStage i x) = freeStage i s := by
  simp only [freeStage, State.setStage_stage, setStage_setStage, freed, disk]

/-- A detached piece frees its stage, or leaves it as `Stage.detached` says, in its chain and its lane. -/
theorem detachPiece_eq (n : NodePort) (k : SlotIdx) (i : StageIdx) (s : State) :
    detachPiece n k i s =
      if ((s.stage i).without n k).deserted ∧ ((s.stage i).state = .queued ∨ (s.stage i).state = .retrying) then
        freeStage i s
      else s.setStage i ((s.stage i).detached n k) := by
  obtain ⟨state, disk, _, _, freed, _⟩ := (s.stage i).without_fields n k
  unfold detachPiece settleStage Stage.detached
  simp only [State.setStage_stage, state]
  by_cases h : ((s.stage i).without n k).deserted = true
  · cases hs : (s.stage i).state <;> simp [h, freeStage_setStage freed disk, setStage_setStage]
  · simp [h]

/-! ## What every command keeps: stages -/

/-- The law of waiters and owners at one stage (R116). -/
def Stage.WaitersOk (st : Stage) : Prop :=
  st.waiters.length ≤ 8 ∧
    (st.waiters.Pairwise fun w x => ¬(w.node = x.node ∧ w.slot = x.slot)) ∧
    (st.state = .free → st.waiters = [] ∧ st.owner = none) ∧
    (st.state ≠ .free → st.kind = .fetch → st.owner = none ∧ (st.waiters = [] ↔ st.abandoned = true)) ∧
    (st.state ≠ .free → st.kind = .store → st.waiters = [] ∧ (st.owner = none ↔ st.abandoned = true)) ∧
    (st.abandoned = true → st.state = .sent ∨ st.state = .accepted ∨ st.state = .streaming)

theorem State.waiterLaw_iff : s.WaiterLaw ↔ ∀ i, (s.stage i).WaitersOk := Iff.rfl

theorem Stage.freed_waitersOk (st : Stage) : st.freed.WaitersOk := by simp [Stage.WaitersOk, Stage.freed]

/-- From x to y a stage stays in its chain, and where it is on a lane it may stay there; it comes to no disk. -/
def Stage.Stays (x y : Stage) : Prop :=
  y.disk = x.disk ∧ y.granule = x.granule ∧ (y.state = .free ↔ x.state = .free) ∧
    (x.state = .queued → y.state = .queued) ∧ (y.atDisk = true → x.atDisk = true)

theorem Stage.atDisk_iff {st : Stage} : st.atDisk = true ↔ st.state ≠ .free ∧ st.state ≠ .queued := by
  cases h : st.state <;> simp [Stage.atDisk, h]

theorem setStage_outstanding_le {i : StageIdx} {x : Stage} (disk : x.atDisk = true → x.disk = (s.stage i).disk)
    (atDisk : x.atDisk = true → (s.stage i).atDisk = true) (d : DiskPort) :
    (s.setStage i x).outstanding d ≤ s.outstanding d := by
  have h := tableCount_set s.stages.table (fun st => st.atDisk && st.disk == d) i x
  have : (if (x.atDisk && x.disk == d) = true then 1 else 0) ≤
      (if ((s.stages.table[i.val]).atDisk && (s.stages.table[i.val]).disk == d) = true then 1 else 0) := by
    by_cases hx : x.atDisk = true
    · have hd := disk hx
      have ha := atDisk hx
      simp only [State.stage] at hd ha
      simp [hx, hd, ha]
    · simp [hx]
  simp only [State.outstanding, State.setStage]
  omega

theorem setStage_chain {i : StageIdx} {x : Stage} (disk : x.disk = (s.stage i).disk)
    (granule : x.granule = (s.stage i).granule) (d : DiskPort) (g : Nat) :
    (s.setStage i x).chain d g = s.chain d g := by
  refine List.filter_congr fun j _ => ?_
  rw [State.setStage_stage_eq]
  split
  · next h => subst h; rw [disk, granule]
  · rfl

theorem setStage_keeps {i : StageIdx} {x : Stage} (stays : (s.stage i).Stays x)
    (waiters : (s.stage i).WaitersOk → x.WaitersOk) : Keeps c e e s (s.setStage i x) := by
  obtain ⟨disk, granule, free, queued, atDisk⟩ := stays
  have read := State.setStage_stage_eq s i x
  refine .of_stages (d := s.dispatch) (fun law j => ?_) (fun law d => ?_) fun law => ?_
  · change ((s.setStage i x).stage j).WaitersOk
    rw [read]
    split
    · exact waiters (law i)
    · exact law j
  · obtain ⟨out, depth, lanes⟩ := law d
    refine ⟨(setStage_outstanding_le (fun _ => disk) atDisk d).trans out, depth, fun l j hj => ?_⟩
    obtain ⟨hq, hd⟩ := lanes l j hj
    change ((s.setStage i x).stage j).state = .queued ∧ ((s.setStage i x).stage j).disk = d
    rw [read]
    split
    · next h => subst h; exact ⟨queued hq, disk.trans hd⟩
    · exact ⟨hq, hd⟩
  · obtain ⟨nodup, mem, heads⟩ := law
    change State.ChainLaw (s.setStage i x)
    have same : ∀ j, ((s.setStage i x).stage j).disk = (s.stage j).disk ∧
        ((s.setStage i x).stage j).granule = (s.stage j).granule ∧
        (((s.setStage i x).stage j).state = .free ↔ (s.stage j).state = .free) ∧
        (((s.setStage i x).stage j).atDisk = true → (s.stage j).atDisk = true) := by
      intro j
      rw [read]
      split
      · next h => subst h; exact ⟨disk, granule, free, atDisk⟩
      · exact ⟨rfl, rfl, Iff.rfl, id⟩
    refine ⟨nodup, fun j => (mem j).trans (not_congr (same j).2.2.1).symm, fun j hj => ?_⟩
    obtain ⟨head, alone⟩ := heads j ((same j).2.2.2 hj)
    refine ⟨?_, fun l hl hd hg => alone l ((same l).2.2.2 hl) ?_ ?_⟩
    · rwa [State.isChainHead, setStage_chain disk granule, (same j).1, (same j).2.1]
    · rw [← (same l).1, hd, (same j).1]
    · rw [← (same l).2.1, hg, (same j).2.1]

theorem setDisk_keeps {d : DiskPort} {r : DiskRecord} (depth : (s.disk d).depth ≤ 8 → r.depth ≤ 8)
    (lanes : s.DiskLaw → ∀ x : Class, ∀ i ∈ r.lanes[x.val], (s.stage i).state = .queued ∧ (s.stage i).disk = d) :
    Keeps c e e s (s.setDisk d r) := by
  refine .of_stages (x := s.stages) id (fun law m => ?_) id
  obtain ⟨out, depthOk, lanesOk⟩ := law m
  change s.outstanding m ≤ 8 ∧ ((s.setDisk d r).disk m).depth ≤ 8 ∧
    ∀ x : Class, ∀ i ∈ ((s.setDisk d r).disk m).lanes[x.val], (s.stage i).state = .queued ∧ (s.stage i).disk = m
  rw [State.setDisk_disk_eq]
  split
  · next h => subst h; exact ⟨out, depth depthOk, lanes law⟩
  · exact ⟨out, depthOk, lanesOk⟩

theorem leaveLanes_keeps (d : DiskPort) (i : StageIdx) (s : State) : Keeps c e e s (leaveLanes d i s) :=
  setDisk_keeps id fun law x j hj => (law d).2.2 x j (by simp at hj; exact hj.1)

/-- A QUEUED stage enters a lane of its disk. -/
theorem setLane_keeps {d : DiskPort} {x : Class} {i : StageIdx} {l : List StageIdx}
    (queued : (s.stage i).state = .queued) (disk : (s.stage i).disk = d)
    (mem : ∀ j ∈ l, j = i ∨ j ∈ (s.disk d).lanes[x.val]) :
    Keeps c e e s (s.setDisk d { s.disk d with lanes := (s.disk d).lanes.set x.val l }) :=
  setDisk_keeps id fun law y j hj => by
    by_cases hy : x.val = y.val
    · have hj : j ∈ l := by simpa [hy] using hj
      obtain rfl | old := mem j hj
      · exact ⟨queued, disk⟩
      · exact (law d).2.2 x j old
    · exact (law d).2.2 y j (by simpa [Vector.getElem_set, hy] using hj)

theorem laneTail_keeps {d : DiskPort} {x : Class} {i : StageIdx} (queued : (s.stage i).state = .queued)
    (disk : (s.stage i).disk = d) : Keeps c e e s (laneTail d x i s) :=
  setLane_keeps queued disk (by simp [or_comm])

theorem laneFront_keeps {d : DiskPort} {x : Class} {i : StageIdx} (queued : (s.stage i).state = .queued)
    (disk : (s.stage i).disk = d) : Keeps c e e s (laneFront d x i s) :=
  setLane_keeps queued disk (by simp)

theorem head?_filter_of_head? {α : Type} {p : α → Bool} {l : List α} {a : α} (head : l.head? = some a)
    (keep : p a = true) : (l.filter p).head? = some a := by
  cases l with
  | nil => simp at head
  | cons b l => simp at head; subst head; simp [keep]

theorem State.isChainHead_iff {i : StageIdx} :
    s.isChainHead i = true ↔ (s.chain (s.stage i).disk (s.stage i).granule).head? = some i := by
  simp [State.isChainHead]

theorem freeStage_chain (i : StageIdx) (s : State) (d : DiskPort) (g : Nat) :
    (freeStage i s).chain d g = (s.chain d g).filter (· != i) := by
  rw [State.chain, State.chain, freeStage_order, List.filter_filter, List.filter_filter]
  refine List.filter_congr fun j _ => ?_
  rw [freeStage_stage, Bool.and_comm]
  split
  · next h => subst h; rfl
  · rfl

theorem freeStage_outstanding_le (i : StageIdx) (s : State) (d : DiskPort) :
    (freeStage i s).outstanding d ≤ s.outstanding d :=
  setStage_outstanding_le (x := (s.stage i).freed) (fun _ => rfl) (by simp [Stage.freed, Stage.atDisk]) d

theorem freeStage_keeps (i : StageIdx) (s : State) : Keeps c e e s (freeStage i s) := by
  have read := fun j => freeStage_stage i j s
  have notAtDisk : (s.stage i).freed.atDisk = false := rfl
  refine .of_stages (s := s) (x := (freeStage i s).stages) (d := (freeStage i s).dispatch) (fun law j => ?_)
    (fun law d => ?_) fun law => ?_
  · change ((freeStage i s).stage j).WaitersOk
    rw [read]
    split
    · exact Stage.freed_waitersOk _
    · exact law j
  · obtain ⟨out, depth, lanes⟩ := law d
    change (freeStage i s).outstanding d ≤ 8 ∧ ((freeStage i s).disk d).depth ≤ 8 ∧
      ∀ x : Class, ∀ j ∈ ((freeStage i s).disk d).lanes[x.val],
        ((freeStage i s).stage j).state = .queued ∧ ((freeStage i s).stage j).disk = d
    refine ⟨(freeStage_outstanding_le i s d).trans out, ?_, fun x j hj => ?_⟩
    · rw [freeStage_disk]; split <;> exact depth
    · rw [freeStage_disk] at hj
      have old : j ∈ (s.disk d).lanes[x.val] ∧ j ≠ i := by
        split at hj
        · simpa using hj
        · next other =>
          refine ⟨hj, ?_⟩
          rintro rfl
          exact other (lanes x _ hj).2.symm
      rw [read, if_neg old.2]
      exact lanes x j old.1
  · obtain ⟨nodup, mem, heads⟩ := law
    change State.ChainLaw (freeStage i s)
    refine ⟨nodup.filter _, fun j => ?_, fun j hj => ?_⟩
    · rw [freeStage_order, List.mem_filter, read, mem]
      by_cases h : j = i
      · subst h; simp [Stage.freed]
      · simp [h]
    · have ji : j ≠ i := by
        rintro rfl
        rw [read, if_pos rfl, notAtDisk] at hj
        cases hj
      rw [read, if_neg ji] at hj
      obtain ⟨head, alone⟩ := heads j hj
      refine ⟨?_, fun l hl hd hg => ?_⟩
      · rw [State.isChainHead_iff, freeStage_chain, read, if_neg ji]
        exact head?_filter_of_head? (State.isChainHead_iff.mp head) (by simpa using ji)
      · have li : l ≠ i := by
          rintro rfl
          rw [read, if_pos rfl, notAtDisk] at hl
          cases hl
        rw [read, if_neg li] at hl hd hg
        rw [read, if_neg ji] at hd hg
        exact alone l hl hd hg

/-! ## Allocation, creation and joining -/

/-- A new stage stands behind the others in its chain, so it takes no stage at its disk from its head. -/
theorem allocated_keeps {i : StageIdx} {x : Stage} (free : (s.stage i).state = .free) (queued : x.state = .queued)
    (waiters : x.WaitersOk) :
    Keeps c e e s { s.setStage i x with
      stages := { (s.setStage i x).stages with order := s.stages.order ++ [i] } } := by
  set t : State := { s.setStage i x with
    stages := { (s.setStage i x).stages with order := s.stages.order ++ [i] } } with ht
  have read : ∀ j, t.stage j = if j = i then x else s.stage j := State.setStage_stage_eq s i x
  have notAtDisk : x.atDisk = false := by simp [Stage.atDisk, queued]
  refine .of_stages (s := s) (x := t.stages) (d := s.dispatch) (fun law j => ?_) (fun law d => ?_) fun law => ?_
  · change (t.stage j).WaitersOk
    rw [read]
    split
    · exact waiters
    · exact law j
  · obtain ⟨out, depth, lanes⟩ := law d
    refine ⟨(setStage_outstanding_le (by simp [notAtDisk]) (by simp [notAtDisk]) d).trans out, depth, fun l j hj => ?_⟩
    obtain ⟨hq, hd⟩ := lanes l j hj
    have ji : j ≠ i := by
      rintro rfl
      rw [free] at hq
      cases hq
    change (t.stage j).state = .queued ∧ (t.stage j).disk = d
    rw [read, if_neg ji]
    exact ⟨hq, hd⟩
  · obtain ⟨nodup, mem, heads⟩ := law
    have new : i ∉ s.stages.order := fun h => (mem i).mp h free
    change State.ChainLaw t
    refine ⟨?_, fun j => ?_, fun j hj => ?_⟩
    · change (s.stages.order ++ [i]).Nodup
      simp [List.nodup_append, nodup]
      rintro a ha rfl
      exact new ha
    · change j ∈ s.stages.order ++ [i] ↔ _
      rw [List.mem_append, List.mem_singleton, mem, read]
      by_cases h : j = i <;> simp [h, queued]
    · have ji : j ≠ i := by
        rintro rfl
        rw [read, if_pos rfl, notAtDisk] at hj
        cases hj
      rw [read, if_neg ji] at hj
      obtain ⟨head, alone⟩ := heads j hj
      refine ⟨?_, fun l hl hd hg => ?_⟩
      · have chain : ∀ d g, (s.chain d g).isPrefixOf (t.chain d g) := fun d g => by
          change (s.stages.order.filter fun i => (s.stage i).disk == d && (s.stage i).granule == g).isPrefixOf
            ((s.stages.order ++ [i]).filter fun i => (t.stage i).disk == d && (t.stage i).granule == g)
          rw [List.filter_append, List.isPrefixOf_iff_prefix]
          refine (List.filter_congr fun l hl => ?_) ▸ List.prefix_append ..
          rw [read, if_neg (by rintro rfl; exact new hl)]
        rw [State.isChainHead_iff, read, if_neg ji]
        obtain ⟨rest, h⟩ := List.isPrefixOf_iff_prefix.mp (chain (s.stage j).disk (s.stage j).granule)
        rw [← h, List.head?_append, State.isChainHead_iff.mp head]
        rfl
      · have li : l ≠ i := by
          rintro rfl
          rw [read, if_pos rfl, notAtDisk] at hl
          cases hl
        rw [read, if_neg li] at hl hd hg
        rw [read, if_neg ji] at hd hg
        exact alone l hl hd hg

theorem newStage_keeps {kind : StageKind} {w : List Waiter} {o : Option Owner}
    (served : kind = .fetch ∧ (∃ x, w = [x]) ∧ o = none ∨ kind = .store ∧ w = [] ∧ o.isSome) (p : Piece) (x : Class)
    (data : List Block) (s : State) : Keeps c e e s (newStage kind p x w o data s) := by
  unfold newStage
  split
  · exact .refl ..
  next i found =>
  have free : (s.stage i).state = .free := by simpa [State.stage] using (tableFind_eq_some.mp found).1
  have ok : ((s.stage i).created i kind p x w o data).WaitersOk := by
    rcases served with ⟨rfl, ⟨y, rfl⟩, rfl⟩ | ⟨rfl, rfl, some⟩
    · simp [Stage.WaitersOk, Stage.created]
    · simp [Stage.WaitersOk, Stage.created, Option.isSome_iff_ne_none.mp some]
  refine (allocated_keeps free rfl ok).trans (laneTail_keeps ?_ ?_)
  · exact congrArg Stage.state (State.setStage_stage s i _)
  · exact congrArg Stage.disk (State.setStage_stage s i _)

theorem Stage.joinable_iff {st : Stage} {n : NodePort} {k : SlotIdx} :
    st.joinable n k = true ↔ st.kind = .fetch ∧ (st.state = .queued ∨ st.state = .sent ∨ st.state = .accepted) ∧
      st.abandoned = false ∧ st.waiters.length < 8 ∧ ∀ w ∈ st.waiters, ¬(w.node = n ∧ w.slot = k) := by
  simp [Stage.joinable, Waiter.ofRequest, and_assoc, or_assoc]

theorem joinStage_keeps {i : StageIdx} {n : NodePort} {k : SlotIdx} (joinable : (s.stage i).joinable n k = true)
    (p : Piece) (x : Class) : Keeps c e e s (joinStage i (waiterOf n k p) x s) := by
  obtain ⟨fetch, state, notAbandoned, room, fresh⟩ := Stage.joinable_iff.mp joinable
  have notFree : (s.stage i).state ≠ .free := by rcases state with h | h | h <;> simp [h]
  have joined : Keeps c e e s (s.setStage i
      { s.stage i with waiters := (s.stage i).waiters ++ [waiterOf n k p], cls := max (s.stage i).cls x }) := by
    refine setStage_keeps ⟨rfl, rfl, Iff.rfl, id, id⟩ fun ok => ?_
    obtain ⟨_, pairwise, _, ofFetch, _, _⟩ := ok
    refine ⟨by simp; omega, ?_, fun h => absurd h notFree, fun _ _ => ⟨(ofFetch notFree fetch).1, by simp [notAbandoned]⟩,
      fun _ h => by simp [fetch] at h, by simp [notAbandoned]⟩
    rw [List.pairwise_append]
    exact ⟨pairwise, by simp, by simpa [waiterOf] using fresh⟩
  unfold joinStage
  dsimp only
  split
  · next h =>
    refine joined.trans ((leaveLanes_keeps ..).trans (laneTail_keeps ?_ ?_)) <;> rw [leaveLanes_stage, State.setStage_stage]
    exact h.2
  · exact joined

theorem State.joinTarget_eq_some {n : NodePort} {k : SlotIdx} {d : DiskPort} {g : Nat} {i : StageIdx} :
    s.joinTarget n k d g = some i ↔ (s.chain d g).getLast? = some i ∧ (s.stage i).joinable n k = true := by
  unfold State.joinTarget
  cases (s.chain d g).getLast? with
  | none => simp
  | some j =>
    by_cases h : (s.stage j).joinable n k = true
    · simp only [h, if_true, Option.some.injEq]
      exact ⟨by rintro rfl; exact ⟨rfl, h⟩, And.left⟩
    · simp only [h]
      refine ⟨by simp, ?_⟩
      rintro ⟨hj, ok⟩
      cases hj
      exact absurd ok h

theorem createPiece_keeps (n : NodePort) (k : SlotIdx) (kind : ReqKind) (x : Class) (p : Piece) (data : List Block)
    (s : State) : Keeps c e e s (createPiece n k kind x p data s) := by
  unfold createPiece
  split
  · exact newStage_keeps (.inr ⟨rfl, rfl, rfl⟩) ..
  · split
    · next h => exact joinStage_keeps (State.joinTarget_eq_some.mp h).2 ..
    · exact newStage_keeps (.inl ⟨rfl, ⟨_, rfl⟩, rfl⟩) ..

theorem createPieces_keeps (n : NodePort) (k : SlotIdx) (kind : ReqKind) (x : Class) (ps : List Piece)
    (data : List Block) (s : State) : Keeps c e e s (createPieces n k kind x ps data s) := by
  induction ps generalizing data s with
  | nil => exact .refl ..
  | cons p ps ih => exact (createPiece_keeps ..).trans (ih ..)

/-! ## Withdrawal, completion and failure -/

theorem owePass_keeps (before s : State) : Keeps c e e s (owePass before s) := by
  obtain ⟨_, h⟩ | ⟨_, h⟩ := owePass_cases before s <;> rw [h]
  · exact .of_stages (d := s.dispatch) id id id
  · exact .refl ..

/-- What becomes of a stage that a piece leaves: it serves others still, it was FREE, it is freed, or it is abandoned. -/
theorem Stage.detached_cases (st : Stage) (n : NodePort) (k : SlotIdx) :
    (st.without n k).deserted = false ∧ st.detached n k = st.without n k ∨
      (st.without n k).deserted = true ∧
        (st.state = .free ∧ st.detached n k = st.without n k ∨
          (st.state = .queued ∨ st.state = .retrying) ∧ st.detached n k = st.freed ∨
          (st.state = .sent ∨ st.state = .accepted ∨ st.state = .streaming) ∧
            st.detached n k = { st.without n k with abandoned := true }) := by
  unfold Stage.detached
  cases h : (st.without n k).deserted with
  | false => simp
  | true => cases st.state <;> simp

theorem Stage.detached_stays {st : Stage} {n : NodePort} {k : SlotIdx}
    (stays : ¬((st.without n k).deserted ∧ (st.state = .queued ∨ st.state = .retrying))) :
    st.Stays (st.detached n k) := by
  obtain ⟨state, disk, granule, _, _, _⟩ := st.without_fields n k
  have plain : st.Stays (st.without n k) :=
    ⟨disk, granule, by rw [state], by rw [state]; exact id, by simp [Stage.atDisk, state]⟩
  obtain ⟨_, h⟩ | ⟨deserted, ⟨_, h⟩ | ⟨lane, _⟩ | ⟨atDisk, h⟩⟩ := st.detached_cases n k
  · rw [h]; exact plain
  · rw [h]; exact plain
  · exact absurd ⟨deserted, lane⟩ stays
  · rw [h]; exact plain

theorem Stage.without_waiters {st : Stage} (kind : st.kind = .fetch) (n : NodePort) (k : SlotIdx) :
    st.without n k = { st with waiters := st.waiters.filter fun w => !w.ofRequest n k } := by
  simp only [Stage.without, kind]

theorem Stage.without_owner {st : Stage} (kind : st.kind = .store) (n : NodePort) (k : SlotIdx) :
    st.without n k = { st with owner := none } := by simp only [Stage.without, kind]

theorem Stage.deserted_iff {st : Stage} : st.deserted = true ↔ st.waiters = [] ∧ st.owner = none := by
  simp [Stage.deserted]

/-- A stage that a piece leaves keeps the law of waiters, if it goes on serving or is abandoned where it must be. -/
theorem Stage.WaitersOk.detached {st : Stage} {n : NodePort} {k : SlotIdx} (ok : st.WaitersOk) :
    (st.detached n k).WaitersOk := by
  obtain ⟨len, pairwise, ofFree, ofFetch, ofStore, ofAbandoned⟩ := ok
  obtain ⟨state, _, _, kind, _, abandoned⟩ := st.without_fields n k
  have fewer : (st.without n k).waiters.Sublist st.waiters ∧
      (st.owner = none → (st.without n k).owner = none) := by
    unfold Stage.without
    split
    · exact ⟨List.filter_sublist, id⟩
    · exact ⟨.refl _, fun _ => rfl⟩
  have len' := fewer.1.length_le.trans len
  have pairwise' := pairwise.sublist fewer.1
  obtain ⟨serving, h⟩ | ⟨deserted, ⟨free, h⟩ | ⟨_, h⟩ | ⟨atDisk, h⟩⟩ := st.detached_cases n k
  case inr.inr.inl => rw [h]; exact Stage.freed_waitersOk _
  all_goals rw [h]
  · have serving : ¬((st.without n k).waiters = [] ∧ (st.without n k).owner = none) := by
      rw [← Stage.deserted_iff, serving]; simp
    have used : st.state ≠ .free := fun free =>
      serving ⟨List.sublist_nil.mp ((ofFree free).1 ▸ fewer.1), fewer.2 (ofFree free).2⟩
    refine ⟨len', pairwise', fun free => absurd (state.symm.trans free) used, fun _ fetch => ?_, fun _ store => ?_,
      by rw [abandoned, state]; exact ofAbandoned⟩
    · obtain ⟨owner, iff⟩ := ofFetch used (kind.symm.trans fetch)
      have owner' := fewer.2 owner
      have some : (st.without n k).waiters ≠ [] := fun none => serving ⟨none, owner'⟩
      refine ⟨owner', ⟨fun none => absurd none some, fun gone => ?_⟩⟩
      rw [abandoned] at gone
      exact List.sublist_nil.mp (iff.mpr gone ▸ fewer.1)
    · have store := kind.symm.trans store
      refine absurd ⟨?_, by rw [Stage.without_owner store]⟩ serving
      exact List.sublist_nil.mp ((ofStore used store).1 ▸ fewer.1)
  · obtain ⟨waiters, owner⟩ := ofFree free
    refine ⟨len', pairwise', fun _ => Stage.deserted_iff.mp deserted, ?_, ?_, by rw [abandoned, state]; exact ofAbandoned⟩
    all_goals exact fun used => absurd (state.trans free) used
  · obtain ⟨waiters, owner⟩ := Stage.deserted_iff.mp deserted
    have used : (st.without n k).state ≠ .free := by rw [state]; rcases atDisk with h | h | h <;> simp [h]
    refine ⟨len', pairwise', fun free => absurd free used, fun _ _ => ⟨owner, by simp [waiters]⟩,
      fun _ _ => ⟨waiters, by simp [owner]⟩, fun _ => by simpa only [state] using atDisk⟩

theorem detachPiece_keeps (n : NodePort) (k : SlotIdx) (i : StageIdx) (s : State) :
    Keeps c e e s (detachPiece n k i s) := by
  rw [detachPiece_eq]
  split
  · exact freeStage_keeps ..
  · next h => exact setStage_keeps (Stage.detached_stays h) Stage.WaitersOk.detached

theorem withdrawPieces_keeps (n : NodePort) (k : SlotIdx) (s : State) : Keeps c e e s (withdrawPieces n k s) :=
  (Keeps.foldl (fun u i => detachPiece_keeps n k i u) _ s).trans (lowerInFlight_keeps ..)

theorem endRequest_keeps (n : NodePort) (k : SlotIdx) (status : Option Status) (s : State) :
    Keeps c e e s (endRequest n k status s) := by
  have ended : Keeps c e e s (freeSlot n k (withdrawPieces n k s)) :=
    (withdrawPieces_keeps ..).trans (freeSlot_keeps ..)
  cases status with
  | none => exact ended
  | some status => exact ended.trans (produceNode_keeps ..)

theorem completePiece_keeps (n : NodePort) (k : SlotIdx) (x : Nat) (s : State) :
    Keeps c e e s (completePiece n k x s) := by
  have counted : Keeps c e e s (s.setSlot n k ((s.slot n k).pieceDone x)) := setSlot_keeps rfl rfl
  unfold completePiece
  dsimp only
  split
  · exact counted.trans ((setTally_keeps ..).trans ((lowerInFlight_keeps ..).trans
      ((freeSlot_keeps ..).trans (produceNode_keeps ..))))
  · exact counted.trans ((setTally_keeps ..).trans (lowerInFlight_keeps ..))

theorem failPiece_keeps (n : NodePort) (k : SlotIdx) (status : Status) (s : State) :
    Keeps c e e s (failPiece n k status s) := (lowerInFlight_keeps ..).trans (endRequest_keeps ..)

theorem completePieces_keeps (l : List Ended) (s : State) :
    Keeps c e e s (l.foldl (fun s x => completePiece x.node x.slot x.count s) s) :=
  Keeps.foldl (fun _ _ => completePiece_keeps ..) l s

theorem failPieces_keeps (status : Status) (l : List Ended) (s : State) :
    Keeps c e e s (l.foldl (fun s x => failPiece x.node x.slot status s) s) :=
  Keeps.foldl (fun _ _ => failPiece_keeps ..) l s

theorem completeStage_keeps (i : StageIdx) (s : State) : Keeps c e e s (completeStage i s) := by
  have freed : Keeps c e e s (freeStage i s) := freeStage_keeps i s
  unfold completeStage
  exact freed.trans (completePieces_keeps ..)

theorem failStage_keeps (i : StageIdx) (status : Status) (s : State) : Keeps c e e s (failStage i status s) := by
  have freed : Keeps c e e s (freeStage i s) := freeStage_keeps i s
  unfold failStage
  exact freed.trans (failPieces_keeps ..)

theorem protocolError_keeps (i : StageIdx) (s : State) : Keeps c e e s (protocolError i s) :=
  (raiseFlag_keeps ..).trans (failStage_keeps ..)

end Sys2Proof.Machine
end

section
/-! PROOFS. What every command keeps, continued: replies, sends and the disk clock. -/

namespace Sys2Proof.Machine

variable {c : Instr} {e e' e'' : Volume → NodePort → Prop} {s t u : State}

/-- A stage at its disk goes on there, or a RETRYING one is sent again, serving the same requests. -/
theorem moveStage_keeps {i : StageIdx} {x : Stage} (atDisk : (s.stage i).atDisk = true) (atDisk' : x.atDisk = true)
    (disk : x.disk = (s.stage i).disk) (granule : x.granule = (s.stage i).granule)
    (waiters : (s.stage i).WaitersOk → x.WaitersOk) : Keeps c e e s (s.setStage i x) := by
  obtain ⟨notFree, notQueued⟩ := Stage.atDisk_iff.mp atDisk
  obtain ⟨notFree', _⟩ := Stage.atDisk_iff.mp atDisk'
  exact setStage_keeps ⟨disk, granule, by simp [notFree, notFree'], fun h => absurd h notQueued, fun _ => atDisk⟩ waiters

/-- A used stage that changes its state serves as before, and an abandoned one stays at its disk. -/
theorem Stage.WaitersOk.of_state {st : Stage} (ok : st.WaitersOk) {x : StageState} (used : st.state ≠ .free)
    (used' : x ≠ .free) (abandoned : st.abandoned = true → x = .sent ∨ x = .accepted ∨ x = .streaming) :
    Stage.WaitersOk { st with state := x } := by
  obtain ⟨len, pairwise, _, ofFetch, ofStore, _⟩ := ok
  exact ⟨len, pairwise, fun h => absurd h used', fun _ => ofFetch used, fun _ => ofStore used, abandoned⟩

theorem Stage.WaitersOk.not_abandoned {st : Stage} (ok : st.WaitersOk) (lane : st.state = .queued ∨ st.state = .retrying) :
    st.abandoned = false := by
  obtain ⟨_, _, _, _, _, ofAbandoned⟩ := ok
  by_contra h
  rcases lane with l | l <;> simpa [l] using ofAbandoned (by simpa using h)

theorem acceptFor_keeps (i : StageIdx) (s : State) : Keeps c e e s (acceptFor i s) := by
  unfold acceptFor
  dsimp only
  split
  · next sent =>
    refine moveStage_keeps (by simp [Stage.atDisk, sent]) rfl rfl rfl fun ok => ?_
    exact ok.of_state (by simp [sent]) (by simp) (by simp)
  · exact .refl ..

/-- A stage that is not abandoned goes back to a lane. -/
theorem returnToLane_keeps {i : StageIdx} (used : (s.stage i).state ≠ .free)
    (served : (s.stage i).WaitersOk → (s.stage i).abandoned = false) : Keeps c e e s (returnToLane i s) := by
  have read := State.setStage_stage s i { s.stage i with state := .queued, owed := false }
  refine Keeps.trans (t := s.setStage i { s.stage i with state := .queued, owed := false }) ?_
    (laneFront_keeps (congrArg Stage.state read) ((congrArg Stage.disk read).trans rfl))
  refine setStage_keeps ⟨rfl, rfl, by simp [used], fun _ => rfl, by simp [Stage.atDisk]⟩ fun ok => ?_
  exact ok.of_state (x := .queued) used (by simp) (by simp [served ok])

theorem nakFor_keeps (i : StageIdx) (s : State) : Keeps c e e s (nakFor i s) := by
  have freed : Keeps c e e s (owePass s (freeStage i s)) := (freeStage_keeps i s).trans (owePass_keeps ..)
  unfold nakFor
  dsimp only
  split
  · next sent =>
    split
    · exact freed
    next served =>
    have served : (s.stage i).abandoned = false := by simpa using served
    split
    · exact returnToLane_keeps (by simp [sent]) fun _ => served
    · refine moveStage_keeps (by simp [Stage.atDisk, sent]) rfl rfl rfl fun ok => ?_
      exact ok.of_state (x := .retrying) (by simp [sent]) (by simp) (by simp [served])
  · split
    · exact freed
    · exact .refl ..
  · split
    · exact freed
    · exact .refl ..
  · exact .refl ..

theorem deliverTo_keeps (w : Waiter) (b : BlockIdx) (block : Block) (s : State) :
    Keeps c e e s (deliverTo w b block s) := by
  unfold deliverTo
  split
  · exact produceNode_keeps ..
  · exact .refl ..

theorem Stage.WaitersOk.take {st : Stage} (ok : st.WaitersOk) (used : st.state ≠ .free) (b : BlockIdx) (block : Block) :
    (st.take b block).WaitersOk := by
  obtain ⟨len, pairwise, _, ofFetch, ofStore, _⟩ := ok
  have same : ∀ w : Waiter, (if w.wants b.val then { w with delivered := w.delivered + 1 } else w).node = w.node ∧
      (if w.wants b.val then { w with delivered := w.delivered + 1 } else w).slot = w.slot := by
    intro w; split <;> exact ⟨rfl, rfl⟩
  refine ⟨by simpa [Stage.take] using len, ?_, by simp [Stage.take], ?_, ?_, by simp [Stage.take]⟩
  · simpa only [Stage.take, List.pairwise_map, same] using pairwise
  · simpa [Stage.take] using ofFetch used
  · simpa [Stage.take] using ofStore used

theorem deliverTo_fold_keeps (b : BlockIdx) (block : Block) (l : List Waiter) (s : State) :
    Keeps c e e s (l.foldl (fun s w => deliverTo w b block s) s) := Keeps.foldl (fun _ _ => deliverTo_keeps ..) l s

theorem takeBlock_keeps {i : StageIdx} (atDisk : (s.stage i).atDisk = true) (b : BlockIdx) (block : Block) :
    Keeps c e e s (takeBlock i b block s) := by
  have taken : Keeps c e e s (s.setStage i ((s.stage i).take b block)) :=
    moveStage_keeps atDisk rfl rfl rfl fun ok => ok.take (Stage.atDisk_iff.mp atDisk).1 b block
  exact taken.trans (deliverTo_fold_keeps ..)

theorem owedError_keeps (i : StageIdx) (s : State) : Keeps c e e s (owePass s (protocolError i s)) :=
  (protocolError_keeps i s).trans (owePass_keeps ..)

theorem dataFor_keeps (index : Byte) (block : Block) (i : StageIdx) (s : State) :
    Keeps c e e s (dataFor index block i s) := by
  unfold dataFor
  dsimp only
  split
  · next h =>
    obtain ⟨_, state, _⟩ := h
    refine takeBlock_keeps ?_ ..
    rcases state with h | ⟨h, _⟩ <;> simp [Stage.atDisk, h]
  · exact owedError_keeps ..

theorem doneOkFor_keeps (i : StageIdx) (s : State) : Keeps c e e s (doneOkFor i s) := by
  unfold doneOkFor
  split
  · exact (completeStage_keeps i s).trans (owePass_keeps ..)
  · exact owedError_keeps ..

theorem onReply_keeps {act : StageIdx → State → State} (acts : ∀ i u, Keeps c e e u (act i u)) (d : DiskPort) (tag : Tag)
    (s : State) : Keeps c e e s (onReply d tag act s) := by
  unfold onReply
  split
  · exact .refl ..
  · split
    · exact .refl ..
    · exact acts ..

theorem setDiskSame_keeps {d : DiskPort} {r : DiskRecord} (depth : r.depth = (s.disk d).depth)
    (lanes : r.lanes = (s.disk d).lanes) : Keeps c e e s (s.setDisk d r) :=
  setDisk_keeps (by rw [depth]; exact id) fun law => by rw [lanes]; exact (law d).2.2

theorem setDiskEmpty_keeps {d : DiskPort} {r : DiskRecord} (depth : r.depth = (s.disk d).depth)
    (lanes : r.lanes = Vector.replicate 4 []) : Keeps c e e s (s.setDisk d r) :=
  setDisk_keeps (by rw [depth]; exact id) (by simp [lanes])

theorem helloFrom_keeps (d : DiskPort) (capacity : Nat) (s : State) : Keeps c e e s (helloFrom d capacity s) := by
  unfold helloFrom
  dsimp only
  split
  · refine Keeps.trans ?_ (raiseFlag_keeps ..)
    exact setDiskSame_keeps rfl rfl
  · exact setDiskSame_keeps rfl rfl

theorem returnToLane_stage (i j : StageIdx) (s : State) :
    (returnToLane i s).stage j = if j = i then { s.stage i with state := .queued, owed := false } else s.stage j :=
  State.setStage_stage_eq s i { s.stage i with state := .queued, owed := false } j

theorem returnToLanes_keeps {l : List StageIdx} (lane : ∀ i ∈ l, (s.stage i).state = .retrying ∨ (s.stage i).state = .queued) :
    Keeps c e e s (l.foldl (fun s i => returnToLane i s) s) := by
  induction l generalizing s with
  | nil => exact .refl ..
  | cons i l ih =>
    have here := lane i (List.mem_cons_self ..)
    refine Keeps.trans (returnToLane_keeps (i := i) (by rcases here with h | h <;> simp [h])
      fun ok => ok.not_abandoned here.symm) (ih fun j hj => ?_)
    rw [returnToLane_stage]
    split
    · exact .inr rfl
    · exact lane j (List.mem_cons_of_mem _ hj)

theorem State.mem_retryingOf {d : DiskPort} {i : StageIdx} :
    i ∈ s.retryingOf d ↔ (s.stage i).state = .retrying ∧ (s.stage i).disk = d := by
  simp [State.retryingOf, mem_tableFilter, State.stage]

theorem holdFrom_keeps (d : DiskPort) (s : State) : Keeps c e e s (holdFrom d s) := by
  unfold holdFrom
  split
  · exact .refl ..
  · refine Keeps.trans (t := s.setDisk d { s.disk d with held := true }) (setDiskSame_keeps rfl rfl)
      (returnToLanes_keeps fun i hi => .inl ?_)
    exact (State.mem_retryingOf.mp (List.mem_reverse.mp hi)).1

theorem releaseFrom_keeps (d : DiskPort) (s : State) : Keeps c e e s (releaseFrom d s) := by
  unfold releaseFrom
  split
  · exact .refl ..
  · exact setDiskSame_keeps rfl rfl

/-! ## Sends (R136, R137) -/

theorem State.laneChoice_eq_some {d : DiskPort} {x : Class} {i : StageIdx} (h : s.laneChoice d x = some i) :
    i ∈ (s.disk d).lanes[x.val] ∧ (s.stage i).state = .queued ∧ s.isChainHead i = true := by
  have := List.find?_some h
  simp only [Bool.and_eq_true, beq_iff_eq] at this
  exact ⟨List.mem_of_find?_eq_some h, this⟩

/-- What dispatch chooses: a QUEUED chain head of some lane, while the disk is below its depth. -/
theorem State.choice_eq_some {d : DiskPort} {i : StageIdx} (h : s.choice d = some i) :
    s.outstanding d < (s.disk d).depth ∧ ∃ x, i ∈ (s.disk d).lanes[Fin.val (n := 4) x] ∧ (s.stage i).state = .queued ∧
      s.isChainHead i = true := by
  unfold State.choice at h
  split at h
  · next conditions =>
    refine ⟨conditions.2.2, ?_⟩
    split at h
    · next h3 => cases h; exact ⟨3, State.laneChoice_eq_some h3⟩
    split at h
    · next h2 => cases h; exact ⟨2, State.laneChoice_eq_some h2⟩
    split at h
    · next h1 => cases h; exact ⟨1, State.laneChoice_eq_some h1⟩
    · exact ⟨0, State.laneChoice_eq_some h⟩
  · cases h

theorem sendStage_keeps {d : DiskPort} {i : StageIdx} (chosen : s.choice d = some i) :
    Keeps c e e s (sendStage d i s) := by
  obtain ⟨room, lane, onLane, queued, head⟩ := State.choice_eq_some chosen
  refine Keeps.trans (t := leaveLanes d i (s.setStage i { s.stage i with state := .sent, sendAge := 0 })) ?_
    (produceDisk_keeps ..)
  set x : Stage := { s.stage i with state := .sent, sendAge := 0 }
  set t := leaveLanes d i (s.setStage i x)
  have read : ∀ j, t.stage j = if j = i then x else s.stage j := State.setStage_stage_eq s i x
  have notAtDisk : (s.stage i).atDisk = false := by simp [Stage.atDisk, queued]
  refine .of_stages (s := s) (x := t.stages) (d := t.dispatch) (fun law j => ?_) (fun law m => ?_) fun law => ?_
  · change (t.stage j).WaitersOk
    rw [read]
    split
    · exact Stage.WaitersOk.of_state (law i) (x := .sent) (by simp [queued]) (by simp) (by simp)
    · exact law j
  · obtain ⟨out, depth, lanes⟩ := law m
    have ofDisk : (s.stage i).disk = d := ((law d).2.2 lane i onLane).2
    have records : ∀ m, (t.disk m).depth = (s.disk m).depth ∧ ∀ (x : Class), ∀ j ∈ (t.disk m).lanes[x.val],
        j ∈ (s.disk m).lanes[x.val] ∧ (m = d → j ≠ i) := by
      intro m
      have : t.disk m = _ := leaveLanes_disk d i (s.setStage i x) m
      rw [this]
      split
      · next h => subst h; exact ⟨rfl, fun x j hj => by simpa using hj⟩
      · next h => exact ⟨rfl, fun x j hj => ⟨hj, fun h' => absurd h' h⟩⟩
    refine ⟨?_, (records m).1 ▸ depth, fun y j hj => ?_⟩
    · have count := tableCount_set s.stages.table (fun st => st.atDisk && st.disk == m) i x
      have here : (s.stages.table[i.val]).atDisk = false := notAtDisk
      have diskX : x.disk = d := ofDisk
      simp only [here, Bool.false_and, diskX] at count
      change tableCount (s.stages.table.set i.val x) (fun st => st.atDisk && st.disk == m) ≤ 8
      have depthD := (law d).2.1
      by_cases hm : m = d
      · subst hm
        have : s.outstanding m = tableCount s.stages.table fun st => st.atDisk && st.disk == m := rfl
        have : x.atDisk = true := rfl
        simp [this] at count
        omega
      · have out : tableCount s.stages.table (fun st => st.atDisk && st.disk == m) ≤ 8 := out
        have : (d == m) = false := by simpa using fun h : d = m => hm h.symm
        simp [this] at count
        omega
    · obtain ⟨old, other⟩ := (records m).2 y j hj
      obtain ⟨hq, hd⟩ := lanes y j old
      have ji : j ≠ i := by
        rintro rfl
        exact other (hd.symm.trans ofDisk) rfl
      change (t.stage j).state = .queued ∧ (t.stage j).disk = m
      rw [read, if_neg ji]
      exact ⟨hq, hd⟩
  · obtain ⟨nodup, mem, heads⟩ := law
    change State.ChainLaw t
    have place : ∀ j, (t.stage j).disk = (s.stage j).disk ∧ (t.stage j).granule = (s.stage j).granule := by
      intro j
      rw [read]
      split
      · next h => subst h; exact ⟨rfl, rfl⟩
      · exact ⟨rfl, rfl⟩
    have sameHead : ∀ j, t.isChainHead j = s.isChainHead j := fun j => by
      have : t.chain (s.stage j).disk (s.stage j).granule = s.chain (s.stage j).disk (s.stage j).granule :=
        setStage_chain (s := s) (i := i) (x := x) rfl rfl ..
      simp only [State.isChainHead, place, this]
    have allHeads : ∀ j, (t.stage j).atDisk = true → s.isChainHead j = true := by
      intro j hj
      by_cases ji : j = i
      · exact ji ▸ head
      · rw [read, if_neg ji] at hj
        exact (heads j hj).1
    refine ⟨nodup, fun j => (mem j).trans ?_, fun j hj => ⟨(sameHead j).trans (allHeads j hj), fun l hl hd hg => ?_⟩⟩
    · rw [read]
      split
      · next h => subst h; simp [queued, x]
      · exact Iff.rfl
    · have h1 := State.isChainHead_iff.mp (allHeads j hj)
      have h2 := State.isChainHead_iff.mp (allHeads l hl)
      simp only [place] at hd hg
      rw [hd, hg, h1] at h2
      exact (Option.some.inj h2).symm

theorem sendTo_keeps (d : DiskPort) (s : State) : Keeps c e e s (sendTo d s) := by
  unfold sendTo
  split
  · exact .refl ..
  · next h => exact sendStage_keeps h

/-! ## The disk clock (R145 to R147) -/

theorem Stage.atDisk_of_timesOut {st : Stage} {x : Timeouts} (h : st.timesOut x = true) : st.atDisk = true := by
  unfold Stage.timesOut at h
  cases hs : st.state <;> simp [Stage.atDisk, hs] at h ⊢

theorem timeOutStage_keeps (i : StageIdx) (s : State) : Keeps c e e s (timeOutStage i s) :=
  (raiseFlag_keeps ..).trans ((failStage_keeps ..).trans (owePass_keeps ..))

theorem countStage_keeps (i : StageIdx) (s : State) : Keeps c e e s (countStage i s) := by
  unfold countStage
  dsimp only
  split
  · exact .refl ..
  · exact .refl ..
  · next h =>
    exact moveStage_keeps (by simp [Stage.atDisk, h]) (by simp [Stage.atDisk, h]) rfl rfl id
  · next h =>
    refine Keeps.trans ?_ (produceDisk_keeps ..)
    refine moveStage_keeps (by simp [Stage.atDisk, h]) rfl rfl rfl fun ok => ?_
    exact ok.of_state (x := .sent) (by simp [h]) (by simp) (by simp)
  · next h =>
    exact moveStage_keeps (by simp [Stage.atDisk, h]) (by simp [Stage.atDisk, h]) rfl rfl id
  · next h =>
    exact moveStage_keeps (by simp [Stage.atDisk, h]) (by simp [Stage.atDisk, h]) rfl rfl id

theorem stageStep_keeps (i : StageIdx) (s : State) : Keeps c e e s (stageStep i s) := by
  unfold stageStep
  split
  · exact timeOutStage_keeps ..
  · exact countStage_keeps ..

theorem stageAtExpiry_keeps (i : StageIdx) (s : State) : Keeps c e e s (stageAtExpiry i s) := by
  unfold stageAtExpiry
  split
  · next h =>
    have := Stage.atDisk_of_timesOut h
    exact moveStage_keeps this this rfl rfl id
  · exact countStage_keeps ..

theorem takeStageStep_keeps (i : StageIdx) (s : State) : Keeps c e e s (takeStageStep i s) := by
  unfold takeStageStep
  split
  · exact stageStep_keeps ..
  · exact .refl ..

theorem settleDisk_keeps (s : State) : Keeps c e e s (settleDisk s) :=
  Keeps.foldl (fun _ _ => takeStageStep_keeps ..) _ s

theorem stagesAtExpiry_keeps (l : List StageIdx) (s : State) :
    Keeps c e e s (l.foldl (fun s i => stageAtExpiry i s) s) := Keeps.foldl (fun _ _ => stageAtExpiry_keeps ..) l s

theorem diskClock_keeps (k : DiskClock) (x : Timeouts) (s : State) :
    Keeps c e e s { s with dispatch := { s.dispatch with clock := k, timeoutsRead := x } } := {}

theorem diskExpiry_keeps (s : State) : Keeps c e e s (diskExpiry s) :=
  (settleDisk_keeps s).trans ((stagesAtExpiry_keeps ..).trans (diskClock_keeps ..))

end Sys2Proof.Machine
end

section
/-! PROOFS. What every command keeps, concluded: endings, clocks, attempts and MANAGE frames; then every command, and the
laws that every step keeps. -/

namespace Sys2Proof.Machine

variable {c : Instr} {e e' e'' : Volume → NodePort → Prop} {s t u : State}

/-! ## Endings -/

theorem endRequests_keeps (n : NodePort) (status : Option Status) (l : List SlotIdx) (s : State) :
    Keeps c e e s (l.foldl (fun s k => endRequest n k status s) s) := Keeps.foldl (fun _ _ => endRequest_keeps ..) l s

/-- The end of a loan's work releases the locks that the loan carried, so it makes the lock law whole again (R38). -/
theorem endLoanWork_keeps (n : NodePort) (v : Volume) (status : Status) (s : State) :
    Keeps c (fun v' n' => v' = v ∧ n' = n) noPair s (endLoanWork n v status s) := by
  unfold endLoanWork
  refine (endRequests_keeps ..).trans ((owePass_keeps ..).trans ((noteHead_keeps ..).trans
    ((freeLocks_keeps ?_).trans (dropClaims_keeps ..))))
  rintro x held ⟨volume, holder⟩
  simp [held, volume, holder]

theorem endLoan_keeps {i : LoanIdx} {x : Loan} (within : (s.loanAt i).Within x) :
    Keeps c noPair (fun v' n' => v' = (s.loanAt i).volume ∧ n' = (s.loanAt i).node) s (s.setLoan i x) :=
  setLoan_keeps within fun _ => .inl ⟨rfl, rfl⟩

/-- A loan that leaves force stays that of its pair. -/
theorem Loan.within_ended {l : Loan} {state : LoanState} (used : state ≠ .free → l.state ≠ .free) (age : Nat)
    (ended : state ≠ .active ∧ state ≠ .due) : l.Within { l with state := state, age := age, owed := false } :=
  ⟨rfl, rfl, rfl, used, by simp [Loan.inForce, ended]⟩

theorem lapseLoan_keeps {i : LoanIdx} (used : (s.loanAt i).state ≠ .free) : Keeps c noPair noPair s (lapseLoan i s) :=
  (endLoan_keeps (Loan.within_ended (fun _ => used) _ (by simp))).trans
    ((loanNotice_keeps ..).trans ((raiseFlag_keeps ..).trans (endLoanWork_keeps ..)))

theorem loanStep_keeps (i : LoanIdx) (s : State) : Keeps c noPair noPair s (loanStep i s) := by
  unfold loanStep
  dsimp only
  split
  · exact setLoan_keeps ⟨rfl, rfl, rfl, id, id⟩ .inr
  next ages =>
  have force : (s.loanAt i).inForce = true := by simp [Loan.ages] at ages; exact ages.1
  have used : (s.loanAt i).state ≠ .free := by rcases Loan.inForce_iff.mp force with h | h <;> simp [h]
  split
  · exact lapseLoan_keeps used
  split
  · refine Keeps.trans ?_ (loanNotice_keeps ..)
    exact setLoan_keeps ⟨rfl, rfl, rfl, fun _ => used, fun _ => force⟩ fun _ => .inr (by simp [Loan.inForce])
  · exact setLoan_keeps ⟨rfl, rfl, rfl, id, id⟩ .inr

theorem revoke_of_free {i : LoanIdx} (h : (s.loanAt i).state = .free) : revoke i s = (s, .notFound) := by
  simp only [revoke, h]

theorem revoke_of_ended {i : LoanIdx} (h : (s.loanAt i).state = .lapsed ∨ (s.loanAt i).state = .recalled) :
    revoke i s = (s.setLoan i { s.loanAt i with state := .free, owed := false }, .ok) := by
  rcases h with h | h <;> simp only [revoke, h]

theorem revoke_of_inForce {i : LoanIdx} (h : (s.loanAt i).inForce = true) :
    revoke i s = (endLoanWork (s.loanAt i).node (s.loanAt i).volume .loanRevoked
      (loanNotice i .revoked (s.setLoan i { s.loanAt i with state := .free, owed := false })), .ok) := by
  rcases Loan.inForce_iff.mp h with h | h <;> simp only [revoke, h]

theorem Loan.state_cases (l : Loan) :
    l.state = .free ∨ (l.state = .lapsed ∨ l.state = .recalled) ∨ l.inForce = true := by
  cases h : l.state <;> simp [Loan.inForce, h]

theorem revoke_keeps (i : LoanIdx) (s : State) : Keeps c noPair noPair s (revoke i s).1 := by
  have freed : (s.loanAt i).Within { s.loanAt i with state := .free, owed := false } :=
    Loan.within_ended (by simp) _ (by simp)
  obtain free | ended | force := (s.loanAt i).state_cases
  · rw [revoke_of_free free]; exact .refl ..
  · rw [revoke_of_ended ended]
    exact setLoan_keeps freed (by rcases ended with h | h <;> simp [Loan.inForce, h])
  · simp only [revoke_of_inForce force]
    have ended := endLoan_keeps (c := c) freed
    exact ended.trans ((loanNotice_keeps ..).trans (endLoanWork_keeps ..))

theorem recallLoans_keeps (n : NodePort) (s : State) :
    Keeps c noPair (fun _ m => m = n) s (recallLoans n s) := by
  refine mapLoans_keeps (fun x => ?_) fun x force => ?_
  · unfold Loan.recalledFrom
    split
    · next h =>
      have force : x.inForce = true := by simp at h; exact h.2
      refine ⟨rfl, rfl, rfl, fun _ => ?_, fun _ => force⟩
      rcases Loan.inForce_iff.mp force with h | h <;> simp [h]
    · exact ⟨rfl, rfl, rfl, id, id⟩
  · by_cases node : x.node = n
    · exact .inl node
    · exact .inr (by simpa [Loan.recalledFrom, node] using force)

theorem emptyDesk_keeps (n : NodePort) (s : State) :
    Keeps c e e s (s.setDesk n { s.desk n with waitList := [], attemptsDue := 0 }) :=
  setDesk_keeps fun _ => ⟨fun _ h => ⟨h, rfl⟩, by simp⟩

theorem departure_keeps (n : NodePort) (s : State) : Keeps c noPair noPair s (departure n s) := by
  unfold departure
  refine (nodeLinkDown_keeps ..).trans ((recallLoans_keeps n _).trans ((endRequests_keeps ..).trans
    ((emptyDesk_keeps ..).trans ((owePass_keeps ..).trans ((freeLocks_keeps ?_).trans
    ((setRetry_keeps ..).trans ((dropClaims_keeps ..).trans (raiseFlag_keeps ..))))))))
  rintro x held holder
  simp [held, holder]

theorem loseStage_keeps (d : DiskPort) (i : StageIdx) (s : State) : Keeps c e e s (loseStage d i s) := by
  unfold loseStage
  split
  · exact failStage_keeps ..
  · exact .refl ..

theorem loseStages_keeps (d : DiskPort) (l : List StageIdx) (s : State) :
    Keeps c e e s (l.foldl (fun s i => loseStage d i s) s) := Keeps.foldl (fun _ _ => loseStage_keeps ..) l s

theorem diskLoss_keeps (d : DiskPort) (s : State) : Keeps c e e s (diskLoss d s) := by
  have emptied : Keeps c e e s (s.setDisk d { s.disk d with lanes := Vector.replicate 4 [] }) :=
    setDiskEmpty_keeps rfl rfl
  have failed := emptied.trans (loseStages_keeps d (s.stagesOf d) _)
  have lost := failed.trans (Keeps.trans (setDiskEmpty_keeps (d := d) (r := (State.disk _ d).lost) rfl rfl)
    (owePass_keeps s _))
  unfold diskLoss
  dsimp only
  split
  · exact lost
  · exact lost.trans (raiseFlag_keeps ..)

theorem linkDown_keeps (l : Link) (s : State) : Keeps c noPair noPair s (linkDown l s) := by
  cases l with
  | node n => exact departure_keeps ..
  | disk d => exact (diskLinkDown_keeps ..).trans (diskLoss_keeps ..)

theorem restartDiskPort_keeps (d : DiskPort) (s : State) : Keeps c e e s (restartDiskPort d s) := by
  unfold restartDiskPort
  split
  · exact (diskLinkDown_keeps ..).trans (diskLoss_keeps ..)
  · exact diskLoss_keeps ..

/-! ## The part restart (R183) -/

theorem abortNode_keeps (n : NodePort) (s : State) : Keeps c e e s (abortNode n s) := by
  unfold abortNode
  split
  · exact .refl ..
  · exact Keeps.foldl (fun _ _ => produceNode_keeps ..) _ _

theorem abortNodes_keeps (l : List NodePort) (s : State) :
    Keeps c e e s (l.foldl (fun s n => abortNode n s) s) := Keeps.foldl (fun _ _ => abortNode_keeps ..) l s

theorem dropDisks_keeps (l : List DiskPort) (s : State) :
    Keeps c e e s (l.foldl (fun s d => dropDisk d s) s) := by
  refine Keeps.foldl (fun u d => ?_) l s
  unfold dropDisk
  split
  · exact .refl ..
  · exact produceDisk_keeps ..

theorem linkRestarted_keeps (s : State) : Keeps c e e s { s with link := s.link.restarted } := by
  refine .of_link fun ⟨n, hn⟩ => ⟨n, ?_⟩
  simpa [State.node, LinkBlock.restarted] using hn

theorem admissionRestarted_keeps (s : State) : Keeps c e e s { s with admission := s.admission.restarted } := by
  refine .of_admission fun _ n => ?_
  simp [State.slot, State.desk, AdmissionBlock.restarted, Slot.freed]

theorem loanRestarted_keeps (s : State) : Keeps c noPair noPair s { s with loan := s.loan.restarted } := by
  refine Keeps.trans (mapLoans_keeps (f := Loan.restarted) (fun x => ?_) fun x force => .inr ?_) (loanClock_keeps ..)
  · refine ⟨rfl, rfl, rfl, ?_, ?_⟩ <;> simp only [Loan.restarted, Loan.inForce] <;> split <;> simp_all
  · simp only [Loan.restarted, Loan.inForce] at force ⊢
    split <;> simp_all

theorem meterRestarted_keeps (s : State) : Keeps c e e s { s with meter := s.meter.restarted } := by
  refine .of_meter fun _ n => ?_
  simp [State.meterOf, MeterBlock.restarted, Meter.restarted]

theorem stagesRestarted_keeps (s : State) :
    Keeps c e e s { s with stages := s.stages.restarted, dispatch := s.dispatch.restarted } := by
  have free : ∀ i, State.stage { s with stages := s.stages.restarted, dispatch := s.dispatch.restarted } i =
      (s.stage i).freed := fun i => by simp [State.stage, StageBlock.restarted]
  have notAtDisk : ∀ x : Stage, x.freed.atDisk = false := fun _ => rfl
  refine .of_stages (fun _ i => ?_) (fun law d => ?_) fun _ => ⟨List.nodup_nil, fun i => ?_, fun i hi => ?_⟩
  · have := Stage.freed_waitersOk (s.stage i)
    rwa [← free] at this
  · refine ⟨?_, ?_, ?_⟩
    · simp [State.outstanding, StageBlock.restarted, tableCount, tableMap, List.countP_map, Function.comp_def, notAtDisk]
    · simpa [State.disk, DispatchBlock.restarted] using (law d).2.1
    · simp [State.disk, DispatchBlock.restarted]
  · rw [free]
    simp [StageBlock.restarted, Stage.freed]
  · rw [free, notAtDisk] at hi
    cases hi

theorem lockRestarted_keeps (s : State) : Keeps c e e s { s with lock := s.lock.restarted } := by
  refine Keeps.trans (mapLocks_keeps (e' := e) (f := Lock.freed) (by simp [Lock.freed])) ?_
  exact .of_claims rfl fun _ => by simp [State.ClaimLaw, State.claimNodes, LockBlock.restarted]

theorem restartPart_keeps (s : State) : Keeps c noPair noPair s (restartPart s) := by
  unfold restartPart
  dsimp only
  have work := (linkRestarted_keeps (c := c) (e := noPair) s).trans
    ((abortNodes_keeps nodePorts _).trans (dropDisks_keeps diskPorts _))
  generalize diskPorts.foldl _ _ = u at work ⊢
  refine work.trans ?_
  exact (admissionRestarted_keeps u).trans ((Keeps.of_volumes _).trans ((loanRestarted_keeps _).trans
    ((meterRestarted_keeps _).trans ((stagesRestarted_keeps _).trans (lockRestarted_keeps _)))))

/-! ## Clocks -/

theorem silenceStep_keeps (l : Link) (s : State) : Keeps c noPair noPair s (silenceStep l s) := by
  cases l with
  | node n =>
    cases h : (s.node n).state with
    | up =>
      rw [silenceStep_node_up h]
      split
      · exact departure_keeps ..
      · exact setNode_keeps rfl
    | down =>
      simp only [silenceStep, h]
      exact setNode_keeps rfl
  | disk d =>
    cases h : (s.diskLink d).state with
    | up =>
      rw [silenceStep_disk_up h]
      split
      · exact linkDown_keeps (.disk d) s
      · exact setDiskLink_keeps ..
    | down =>
      simp only [silenceStep, h]
      exact setDiskLink_keeps ..

theorem takeSilence_keeps (l : Link) (s : State) : Keeps c noPair noPair s (takeSilence l s) := by
  unfold takeSilence
  split
  · exact silenceStep_keeps ..
  · exact .refl ..

theorem settlePort_keeps (s : State) : Keeps c noPair noPair s (settlePort s) :=
  (Keeps.foldl (fun u n => takeSilence_keeps (.node n) u) nodePorts s).trans
    (Keeps.foldl (fun u d => takeSilence_keeps (.disk d) u) diskPorts _)

theorem NodeLink.atExpiry_manager (limit : Nat) (r : NodeLink) : (r.atExpiry limit).manager = r.manager := by
  unfold NodeLink.atExpiry
  dsimp only
  cases r.state <;> dsimp only
  split <;> rfl

theorem linksAtExpiry_keeps (limit : Nat) (disks : Vector DiskLink 16) (k : Clock) (s : State) :
    Keeps c e e s { s with
      link := { nodes := tableMap (NodeLink.atExpiry limit) s.link.nodes, disks := disks, clock := k, limitRead := limit } } := by
  refine .of_link fun ⟨n, hn⟩ => ⟨n, ?_⟩
  simpa [State.node, NodeLink.atExpiry_manager] using hn

theorem portExpiry_keeps (s : State) : Keeps c noPair noPair s (portExpiry s) :=
  (settlePort_keeps s).trans (linksAtExpiry_keeps ..)

theorem takeLoanStep_keeps (i : LoanIdx) (s : State) : Keeps c noPair noPair s (takeLoanStep i s) := by
  unfold takeLoanStep
  split
  · exact loanStep_keeps ..
  · exact .refl ..

theorem takeLockStep_keeps (k : LockIdx) (s : State) : Keeps c e e s (takeLockStep k s) := by
  unfold takeLockStep
  split
  · exact lockStep_keeps ..
  · exact .refl ..

theorem takeTimer_keeps (s : State) : Keeps c e e s (takeTimer s) := by
  unfold takeTimer
  split
  · exact timerStep_keeps ..
  · exact .refl ..

theorem takeTally_keeps (s : State) : Keeps c e e s (takeTally s) := by
  unfold takeTally
  split
  · exact tallyStep_keeps ..
  · exact .refl ..

theorem settleLending_keeps (s : State) : Keeps c noPair noPair s (settleLending s) :=
  (Keeps.foldl (fun u i => takeLoanStep_keeps i u) _ s).trans
    ((Keeps.foldl (fun u k => takeLockStep_keeps k u) _ _).trans ((takeTimer_keeps _).trans (takeTally_keeps _)))

theorem Loan.within_atExpiry (l : Loan) : l.Within l.atExpiry := by
  unfold Loan.atExpiry
  split
  · split <;> exact ⟨rfl, rfl, rfl, id, id⟩
  · exact ⟨rfl, rfl, rfl, id, id⟩

theorem Loan.inForce_atExpiry (l : Loan) : l.atExpiry.inForce = l.inForce := by
  unfold Loan.atExpiry
  split
  · split <;> rfl
  · rfl

theorem Lock.atExpiry_fields (limit : Nat) (l : Lock) :
    (l.atExpiry limit).state = l.state ∧ (l.atExpiry limit).volume = l.volume ∧
      (l.atExpiry limit).granule = l.granule ∧ (l.atExpiry limit).holder = l.holder := by
  unfold Lock.atExpiry
  split
  · exact ⟨rfl, rfl, rfl, rfl⟩
  · split <;> exact ⟨rfl, rfl, rfl, rfl⟩

theorem limitRead_keeps (x : Nat) (s : State) : Keeps c e e s { s with lock := { s.lock with limitRead := x } } :=
  .of_claims rfl id

theorem countLending_keeps (s : State) : Keeps c noPair noPair s (countLending s) := by
  have loans : Keeps c noPair noPair s
      { s with loan := { s.loan with loans := tableMap Loan.atExpiry s.loan.loans } } :=
    mapLoans_keeps Loan.within_atExpiry fun x force => .inr (x.inForce_atExpiry.trans force)
  refine loans.trans (Keeps.trans (mapLocks_keeps (f := Lock.atExpiry s.settings.holdLimit) fun x held => ?_)
    ((limitRead_keeps s.settings.holdLimit _).trans ((timerAtExpiry_keeps _).trans (tallyAtExpiry_keeps _))))
  obtain ⟨state, volume, granule, holder⟩ := x.atExpiry_fields s.settings.holdLimit
  exact ⟨state ▸ held, volume, granule, holder, id⟩

theorem lendingExpiry_keeps (s : State) : Keeps c noPair noPair s (lendingExpiry s) :=
  (settleLending_keeps s).trans ((countLending_keeps _).trans (loanClock_keeps ..))

end Sys2Proof.Machine
end

section
/-! PROOFS. What every command keeps, concluded: attempts, passes and MANAGE frames; then every command, and the laws
that every step keeps. -/

namespace Sys2Proof.Machine

variable {c : Instr} {e e' e'' : Volume → NodePort → Prop} {s t u : State}

/-! ## Attempts and passes -/

/-- A LOCKREAD passes the loan check of a SHARED-UPDATE loan in force alone (R27, R28). -/
theorem sharesVolume_of_loanCheck {v : Volume} {n : NodePort} (passed : loanCheck v n .lockread s = none) :
    s.sharesVolume v n = true := by
  unfold loanCheck at passed
  split at passed
  · cases passed
  next i entry =>
  split at passed
  · next force =>
    split at passed
    · next permits =>
      have mode : (s.loanAt i).mode = .sharedUpdate := by
        cases h : (s.loanAt i).mode <;> simp [h, LoanMode.permits] at permits ⊢
      have pair := (tableFind_eq_some.mp entry).1
      simp only [Bool.and_eq_true] at pair
      refine tableAny_iff.mpr ⟨i, ?_⟩
      simp only [Bool.and_eq_true, beq_iff_eq]
      exact ⟨⟨force, pair.2⟩, mode⟩
    · cases passed
  · cases passed

theorem lockOn_of_lockreadCheck {n : NodePort} {v : Volume} {g : Nat} (passed : lockreadCheck n v g s = none) :
    s.lockOn v g = none := by
  unfold lockreadCheck at passed
  split at passed
  · split at passed <;> cases passed
  · assumption

theorem refuseHead_keeps (n : NodePort) (k : SlotIdx) (status : Status) (s : State) :
    Keeps c e e s (refuseHead n k status s) := (freeSlot_keeps ..).trans (produceNode_keeps ..)

theorem countRefusal_keeps (kind : ReqKind) (status : Status) (n : NodePort) (v : Volume) (g : Nat) (s : State) :
    Keeps c e e s (countRefusal kind status n v g s) := by
  unfold countRefusal
  split
  · exact countRetry_keeps ..
  · exact .refl ..

theorem admitHead_keeps {n : NodePort} {k : SlotIdx} (head : k ∈ (s.desk n).waitList)
    (lock : (s.slot n k).kind = .lockread →
      s.sharesVolume (s.slot n k).volume n = true ∧ s.lockOn (s.slot n k).volume ((s.slot n k).offset / 8) = none)
    (ps : List Piece) : Keeps c e e s (admitHead n k ps s) := by
  have charged : Keeps c e e s (charge n (s.slot n k).length s) := charge_keeps ..
  have locked : Keeps c e e (charge n (s.slot n k).length s)
      (lockAtAdmission (s.slot n k).kind n (s.slot n k).volume ((s.slot n k).offset / 8)
        (charge n (s.slot n k).length s)) := by
    cases kind : (s.slot n k).kind with
    | read => exact .refl ..
    | write => exact .refl ..
    | lockread =>
      obtain ⟨shares, noLock⟩ := lock kind
      refine takeLock_keeps ?_ ?_
      · rw [State.sharesVolume] at shares ⊢; simpa using shares
      · rw [State.lockOn] at noLock ⊢; simpa using noLock
    | unlockwrite => exact giveLock_keeps ..
  unfold admitHead
  dsimp only
  refine charged.trans (locked.trans ((createPieces_keeps ..).trans ((raiseInFlight_keeps ..).trans
    (admitSlot_keeps ?_ _))))
  simpa [State.desk] using head

theorem judgeHead_keeps {n : NodePort} {k : SlotIdx} (head : k ∈ (s.desk n).waitList) :
    Keeps c e e s (judgeHead n k s) := by
  have translated := translateAll_keeps (c := c) (e := e) (s.slot n k).kind (s.slot n k).volume
    (cutRequest (s.slot n k).offset (s.slot n k).length) s
  have frame := translateAll_frame (s.slot n k).kind (s.slot n k).volume
    (cutRequest (s.slot n k).offset (s.slot n k).length) s
  unfold judgeHead
  dsimp only
  split
  · exact waitHead_keeps ..
  split
  · exact refuseHead_keeps ..
  next loanPassed =>
  split
  · exact (countRefusal_keeps ..).trans (refuseHead_keeps ..)
  split
  · next h => rw [h] at translated; exact translated.trans (refuseHead_keeps ..)
  next s' ps h =>
  rw [h] at translated frame
  dsimp only at translated frame
  obtain ⟨admission, loan, _, _, _, _, _, _⟩ := frame
  split
  · exact translated.trans ((countRefusal_keeps ..).trans (refuseHead_keeps ..))
  next lockPassed =>
  split
  · exact translated.trans (waitHead_keeps ..)
  · have slot : s'.slot n k = s.slot n k := by simp only [State.slot, State.desk, admission]
    refine translated.trans (admitHead_keeps ?_ (fun kind => ⟨?_, ?_⟩) ps)
    · simpa only [State.desk, admission] using head
    · rw [slot] at kind ⊢
      rw [kind] at loanPassed
      have := sharesVolume_of_loanCheck loanPassed
      rwa [State.sharesVolume, loan]
    · rw [slot] at kind ⊢
      rw [kind] at lockPassed
      exact lockOn_of_lockreadCheck lockPassed

theorem State.mem_waitList_of_headOf {n : NodePort} {k : SlotIdx} (h : s.headOf n = some k) :
    k ∈ (s.desk n).waitList := List.mem_of_mem_head? h

theorem attempt_keeps (n : NodePort) (s : State) : Keeps c e e s (attempt n s) := by
  unfold attempt
  split
  · exact .refl ..
  · next h => exact (judgeHead_keeps (State.mem_waitList_of_headOf h)).trans (noteHead_keeps ..)

theorem takeAttempt_keeps (n : NodePort) (s : State) : Keeps c e e s (takeAttempt n s) := by
  unfold takeAttempt
  split
  · exact .refl ..
  · exact Keeps.trans (setDesk_keeps fun _ => Desk.within_attempts _ _) (attempt_keeps ..)

theorem lastServed_keeps (n : NodePort) (s : State) :
    Keeps c e e s { s with stages := { s.stages with lastServed := n } } := .of_stages (d := s.dispatch) id id id

theorem serveNodes_keeps (ns : List NodePort) (s : State) : Keeps c e e s (serveNodes ns s) := by
  induction ns generalizing s with
  | nil => exact .refl ..
  | cons n ns ih =>
    unfold serveNodes
    split
    · exact .refl ..
    · exact (lastServed_keeps n s).trans ((attempt_keeps ..).trans (ih _))

theorem passesDue_keeps (x : Nat) (s : State) :
    Keeps c e e s { s with stages := { s.stages with passesDue := x } } := .of_stages (d := s.dispatch) id id id

theorem takePass_keeps (s : State) : Keeps c e e s (takePass s) := by
  unfold takePass
  split
  · exact .refl ..
  · refine Keeps.trans ?_ (serveNodes_keeps ..)
    exact passesDue_keeps ..

/-! ## MANAGE frames -/

theorem manage_keeps {serve : State → Served} (served : ∀ u, Keeps c e e u (serve u).state) (h : ManageHeader)
    (operation table : Byte) (index : BitVec 16) (s : State) : Keeps c e e s (manage h operation table index serve s) := by
  have taken : Keeps c e e s (takeManage h s) := by
    unfold takeManage
    split
    · exact .refl ..
    · exact goodNodeFrame_keeps ..
  unfold manage
  dsimp only
  split
  · exact taken.trans ((served _).trans (produceNode_keeps ..))
  · exact taken.trans (produceNode_keeps ..)

theorem manageOp_keeps {serve : State → State × ReplyStatus} (served : ∀ u, Keeps c e e u (serve u).1) (h : ManageHeader)
    (operation : Byte) (s : State) : Keeps c e e s (manageOp h operation serve s) := manage_keeps served ..

theorem readEntry_keeps {size : Nat} {get : Fin size → State → State × ReplyStatus × List Byte}
    (got : ∀ i u, Keeps c e e u (get i u).1) (h : ManageHeader) (t : Table) (index : BitVec 16) (s : State) :
    Keeps c e e s (readEntry h t index size get s) := by
  refine manage_keeps (fun u => ?_) ..
  split
  · exact got ..
  · exact .refl ..

theorem plainRead_keeps {size : Nat} (image : Fin size → State → List Byte) (i : Fin size) (u : State) :
    Keeps c e e u (plainRead image i u).1 := .refl ..

theorem writeEntry_keeps {size len : Nat} {put : Fin size → List Byte → State → State × ReplyStatus}
    (written : ∀ i b u, Keeps c e e u (put i b u).1) (h : ManageHeader) (t : Table) (index : BitVec 16)
    (image : List Byte) (s : State) : Keeps c e e s (writeEntry h t index image size len put s) := by
  refine manage_keeps (fun u => ?_) ..
  split
  · split
    · exact written ..
    · exact .refl ..
  · exact .refl ..

theorem putSettings_keeps (h : ManageHeader) (index : BitVec 16) (image : List Byte) (i : Fin 1) (b : List Byte)
    (s : State) : Keeps (.writeEntrySettings h index image) e e s (putSettings i b s).1 := by
  unfold putSettings
  split
  · exact { settings := fun _ other => (other _ _ _ rfl).elim }
  · exact .refl ..

theorem putClass_keeps (h : ManageHeader) (index : BitVec 16) (image : List Byte) (i : Fin 8) (b : List Byte)
    (s : State) : Keeps (.writeEntryClassmap h index image) e e s (putClass i b s).1 := by
  unfold putClass
  split
  · exact { classMap := fun _ other => (other _ _ _ rfl).elim }
  · exact .refl ..

theorem putNotice_keeps (h : ManageHeader) (index : BitVec 16) (image : List Byte) (i : Fin 1) (b : List Byte)
    (s : State) : Keeps (.writeEntryNotice h index image) e e s (putNotice i b s).1 :=
  { masks := fun _ other => (other _ _ _ rfl).elim }

theorem clearFlags_keeps (h : ManageHeader) (selection : FlagImage) (s : State) :
    Keeps (.clearNotices h selection) e e s (clearFlags selection s) :=
  { flags := fun _ other => (other _ _ rfl).elim }

theorem putMap_keeps (h : ManageHeader) (index : BitVec 16) (image : List Byte) (i : MapIdx) (b : List Byte)
    (s : State) : Keeps (.writeEntryMap h index image) e e s (putMap i b s).1 := by
  unfold putMap
  split
  · exact .of_mapEntry fun ordinary => by cases ordinary
  · exact .refl ..

theorem depth_le_of_depthOfImage {b : List Byte} {x : Nat} (h : depthOfImage b = some x) : x ≤ 8 := by
  unfold depthOfImage at h
  split at h
  · next range => cases h; exact range.2
  · cases h

theorem putDisk_keeps (d : DiskPort) (b : List Byte) (s : State) : Keeps c e e s (putDisk d b s).1 := by
  unfold putDisk
  split
  · next h => exact setDisk_keeps (fun _ => depth_le_of_depthOfImage h) fun law => (law d).2.2
  · exact .refl ..

theorem putVolume_keeps (v : Volume) (b : List Byte) (s : State) : Keeps c e e s (putVolume v b s).1 := by
  unfold putVolume
  split
  · exact .of_volumes _
  · exact .refl ..

/-- A meter's new credit is lowered to its new burst (R98). -/
theorem credit_le_of_meterOfImage {b : List Byte} {old m : Meter} (h : meterOfImage b old = some m) :
    m.credit ≤ m.burst := by
  unfold meterOfImage at h
  split at h
  · cases h; exact Nat.min_le_right ..
  · cases h

theorem putMeter_keeps (n : NodePort) (b : List Byte) (s : State) : Keeps c e e s (putMeter n b s).1 := by
  unfold putMeter
  split
  · exact .refl ..
  · next m h =>
    have written : Keeps c e e s (s.setMeter n m) := setMeter_keeps fun _ => credit_le_of_meterOfImage h
    dsimp only
    split
    · exact written.trans (startAttempt_keeps ..)
    · exact written

/-- A written port leaves a manager port, itself or another (R63). -/
theorem putPort_keeps (n : NodePort) (b : List Byte) (s : State) : Keeps c e e s (putPort n b s).1 := by
  unfold putPort
  split
  · exact .refl ..
  next m x _ =>
  split
  · next manager =>
    refine .of_link fun _ => ?_
    change State.ManagerLaw (s.setNode n { s.node n with manager := m, ceiling := x })
    cases m with
    | true => exact ⟨n, by simp⟩
    | false =>
      simp only [State.otherManager, Bool.false_or, List.any_eq_true, Bool.and_eq_true, bne_iff_ne] at manager
      obtain ⟨l, _, other, isManager⟩ := manager
      exact ⟨l, by rw [State.setNode_node_ne _ _ _ _ other]; exact isManager⟩
  · exact .refl ..

theorem serveGrant_keeps (v : Volume) (node mode : Byte) (term : BitVec 16) (s : State) :
    Keeps c noPair noPair s (serveGrant v node mode term s).state := by
  unfold serveGrant
  split
  · exact .refl ..
  · split
    · exact grant_keeps ..
    · exact .refl ..

theorem serveRevoke_keeps (index : BitVec 16) (s : State) : Keeps c noPair noPair s (serveRevoke index s).1 := by
  unfold serveRevoke
  split
  · exact revoke_keeps ..
  · exact .refl ..

theorem serveBreak_keeps (index : BitVec 16) (s : State) : Keeps c e e s (serveBreak index s).1 := by
  unfold serveBreak
  split
  · split
    · exact .refl ..
    · exact setLock_keeps (by simp [Lock.freed])
  · exact .refl ..

theorem serveRestartNode_keeps (port : Byte) (s : State) : Keeps c noPair noPair s (serveRestartNode port s).1 := by
  unfold serveRestartNode
  split
  · exact departure_keeps ..
  · exact .refl ..

theorem serveRestartPart_keeps (s : State) : Keeps c noPair noPair s (restartPart s, ReplyStatus.ok).1 := by
  dsimp only
  exact restartPart_keeps s

theorem serveRestartDisk_keeps (port : Byte) (s : State) : Keeps c e e s (serveRestartDisk port s).1 := by
  unfold serveRestartDisk
  split
  · exact restartDiskPort_keeps ..
  · exact .refl ..

theorem readMap_keeps (i : MapIdx) (s : State) : Keeps c e e s (readMap i s).1 := readMapEntry_keeps ..

theorem readTally_keeps (n : NodePort) (s : State) : Keeps c e e s (readTally n s).1 := setTally_keeps ..

/-! ## The state after power-on -/

theorem tableCount_replicate_of_false {α : Type} {n : Nat} {a : α} {p : α → Bool} (h : p a = false) :
    tableCount (Vector.replicate n a) p = 0 := by
  simp [tableCount, List.countP_replicate, h]

/-- Settles O9, law by law: after power-on every entry of every table is the one of its Power-on column. -/
theorem lawsHoldAtReset : Obligations.LawsHoldAtReset := by
  refine ⟨⟨0, by rw [reset_node]; rfl⟩, fun n => ?_, fun i j hi => ?_, fun i j _ hi => ?_, fun n => ⟨fun k l hk => ?_, ?_⟩,
    fun d => ⟨?_, ?_, ?_⟩, ⟨fun k hk => ?_, fun k l hk => ?_⟩, fun i => ?_, ⟨List.nodup_nil, fun i => ?_, fun i hi => ?_⟩, ?_⟩
  · simp [Meter.reset]
  · simp [Loan.reset] at hi
  · simp [Loan.reset, Loan.inForce] at hi
  · simp [Slot.reset] at hk
  · simp [Desk.reset]
  · exact (tableCount_replicate_of_false (a := Stage.reset) rfl).trans_le (Nat.zero_le _)
  · simp [DiskRecord.reset]
  · simp [DiskRecord.reset]
  · simp [Lock.reset] at hk
  · simp [Lock.reset] at hk
  · simp [Stage.reset]
  · rw [reset_stage]; simp [Stage.reset, State.reset]
  · simp [Stage.reset, Stage.atDisk] at hi
  · simp [State.ClaimLaw, State.claimNodes, State.reset]

theorem powerOn_keeps (s : State) :
    Keeps .powerOn noPair noPair s { State.reset with pending := s.pending, draws := s.draws } := by
  obtain ⟨manager, credit, pair, mode, slot, disk, lock, waiter, chain, claim⟩ := lawsHoldAtReset
  exact
    { manager := fun _ => manager, credit := fun _ => credit, pair := fun _ => pair, mode := fun _ => mode,
      slot := fun _ => slot, disk := fun _ => disk, waiter := fun _ => waiter, chain := fun _ => chain,
      claim := fun _ => claim, lock := fun _ => State.lockLawBut_noPair.mpr lock,
      settings := fun other => absurd rfl other, classMap := fun other => absurd rfl other,
      masks := fun other => absurd rfl other, flags := fun other => absurd rfl other, lost := fun other => by cases other }

/-! ## Every command and every step -/

theorem exec_keeps (c : Instr) (s : State) : ∃ t, exec c s = .next t ∧ Keeps c noPair noPair s t := by
  cases c with
  | powerOn => exact ⟨_, rfl, powerOn_keeps s⟩
  | damagedFrame l => exact ⟨_, rfl, damagedFrame_keeps ..⟩
  | unknownKindFrame l =>
    refine ⟨_, rfl, ?_⟩
    cases l with
    | node n => exact goodNodeFrame_keeps ..
    | disk d => exact goodDiskFrame_keeps ..
  | idle n => exact ⟨_, rfl, goodNodeFrame_keeps ..⟩
  | diskIdle d => exact ⟨_, rfl, goodDiskFrame_keeps ..⟩
  | request n f => exact ⟨_, rfl, (goodNodeFrame_keeps ..).trans (arrive_keeps ..)⟩
  | renew n v => exact ⟨_, rfl, (goodNodeFrame_keeps ..).trans (renewPair_keeps ..)⟩
  | hello d capacity => exact ⟨_, rfl, (goodDiskFrame_keeps ..).trans (helloFrom_keeps ..)⟩
  | accept d tag => exact ⟨_, rfl, (goodDiskFrame_keeps ..).trans (onReply_keeps acceptFor_keeps ..)⟩
  | nak d tag => exact ⟨_, rfl, (goodDiskFrame_keeps ..).trans (onReply_keeps nakFor_keeps ..)⟩
  | diskData d index tag block =>
    exact ⟨_, rfl, (goodDiskFrame_keeps ..).trans (onReply_keeps (dataFor_keeps index block) ..)⟩
  | diskDoneOk d tag => exact ⟨_, rfl, (goodDiskFrame_keeps ..).trans (onReply_keeps doneOkFor_keeps ..)⟩
  | diskDoneError d result tag =>
    exact ⟨_, rfl, (goodDiskFrame_keeps ..).trans (onReply_keeps owedError_keeps ..)⟩
  | hold d => exact ⟨_, rfl, (goodDiskFrame_keeps ..).trans (holdFrom_keeps ..)⟩
  | release d => exact ⟨_, rfl, (goodDiskFrame_keeps ..).trans (releaseFrom_keeps ..)⟩
  | linkLossIndication l =>
    cases l with
    | node n =>
      cases h : (s.node n).state with
      | up => exact ⟨linkDown (.node n) s, by simp only [exec, execLinkLossIndication, h], linkDown_keeps ..⟩
      | down => exact ⟨s, by simp only [exec, execLinkLossIndication, h], .refl ..⟩
    | disk d =>
      cases h : (s.diskLink d).state with
      | up => exact ⟨linkDown (.disk d) s, by simp only [exec, execLinkLossIndication, h], linkDown_keeps ..⟩
      | down => exact ⟨s, by simp only [exec, execLinkLossIndication, h], .refl ..⟩
  | frameSent l => exact ⟨_, rfl, frameSentOn_keeps ..⟩
  | portClockExpiry => exact ⟨_, rfl, portExpiry_keeps s⟩
  | silenceLimit l => exact ⟨_, rfl, takeSilence_keeps ..⟩
  | meterClockExpiry => exact ⟨_, rfl, meterExpiry_keeps s⟩
  | lendingClockExpiry => exact ⟨_, rfl, lendingExpiry_keeps s⟩
  | loanDue i =>
    refine ⟨_, rfl, ?_⟩
    unfold takeDue
    split
    · exact .refl ..
    · exact takeLoanStep_keeps ..
  | lapse i =>
    refine ⟨_, rfl, ?_⟩
    unfold takeLapse
    split
    · exact takeLoanStep_keeps ..
    · exact .refl ..
  | holdLimit k => exact ⟨_, rfl, takeLockStep_keeps ..⟩
  | lockoutTimer => exact ⟨_, rfl, takeTimer_keeps s⟩
  | tallyPeriodEnd => exact ⟨_, rfl, takeTally_keeps s⟩
  | diskClockExpiry => exact ⟨_, rfl, diskExpiry_keeps s⟩
  | retryTimeout i =>
    refine ⟨_, rfl, ?_⟩
    unfold takeRetryTimeout
    split
    · exact takeStageStep_keeps ..
    · exact .refl ..
  | responseTimeout i =>
    refine ⟨_, rfl, ?_⟩
    unfold takeResponseTimeout
    split
    · exact takeStageStep_keeps ..
    · exact .refl ..
  | admissionAttempt n => exact ⟨_, rfl, takeAttempt_keeps ..⟩
  | arbiterPass => exact ⟨_, rfl, takePass_keeps s⟩
  | send d => exact ⟨_, rfl, sendTo_keeps ..⟩
  | readEntryMap h index => exact ⟨_, rfl, readEntry_keeps readMap_keeps ..⟩
  | readEntryTally h index => exact ⟨_, rfl, readEntry_keeps readTally_keeps ..⟩
  | readEntrySettings | readEntryPort | readEntryDisk | readEntryVolume | readEntryLoan | readEntryClassmap
  | readEntryMeter | readEntryStage | readEntryLock | readEntryLockout | readEntryRequest | readEntryNotice =>
    exact ⟨_, rfl, readEntry_keeps (plainRead_keeps _) ..⟩
  | writeEntrySettings h index image => exact ⟨_, rfl, writeEntry_keeps (putSettings_keeps h index image) ..⟩
  | writeEntryPort h index image => exact ⟨_, rfl, writeEntry_keeps putPort_keeps ..⟩
  | writeEntryDisk h index image => exact ⟨_, rfl, writeEntry_keeps putDisk_keeps ..⟩
  | writeEntryVolume h index image => exact ⟨_, rfl, writeEntry_keeps putVolume_keeps ..⟩
  | writeEntryMap h index image => exact ⟨_, rfl, writeEntry_keeps (putMap_keeps h index image) ..⟩
  | writeEntryClassmap h index image => exact ⟨_, rfl, writeEntry_keeps (putClass_keeps h index image) ..⟩
  | writeEntryMeter h index image => exact ⟨_, rfl, writeEntry_keeps putMeter_keeps ..⟩
  | writeEntryNotice h index image => exact ⟨_, rfl, writeEntry_keeps (putNotice_keeps h index image) ..⟩
  | writeEntryReadOnly h table index image => exact ⟨_, rfl, manage_keeps (fun _ => .refl ..) ..⟩
  | grantLoan h v node mode term => exact ⟨_, rfl, manage_keeps (serveGrant_keeps v node mode term) ..⟩
  | revokeLoan h index => exact ⟨_, rfl, manageOp_keeps (serveRevoke_keeps index) ..⟩
  | breakLock h index => exact ⟨_, rfl, manageOp_keeps (serveBreak_keeps index) ..⟩
  | clearNotices h selection => exact ⟨_, rfl, manageOp_keeps (clearFlags_keeps h selection) ..⟩
  | restartPart h => exact ⟨_, rfl, manageOp_keeps (serve := fun u => (restartPart u, .ok)) serveRestartPart_keeps ..⟩
  | restartPortNode h port => exact ⟨_, rfl, manageOp_keeps (serveRestartNode_keeps port) ..⟩
  | restartPortDisk h port => exact ⟨_, rfl, manageOp_keeps (serveRestartDisk_keeps port) ..⟩
  | manageUnknownOperation h operation operands => exact ⟨_, rfl, manage_keeps (fun _ => .refl ..) ..⟩

/-- The queue, which the laws do not read, gives up its front command; an empty queue may disturb the map (1.6). -/
theorem step_keeps {s t : State} (next : step s = .next t) : ∃ c, Keeps c noPair noPair s t := by
  unfold step at next
  split at next
  · next c rest _ =>
    obtain ⟨t', ran, keeps⟩ := exec_keeps c { s with pending := rest }
    rw [ran] at next
    cases next
    exact ⟨c, Keeps.trans (t := { s with pending := rest }) {} keeps⟩
  · cases next
    refine ⟨.powerOn, ?_⟩
    unfold idleStep
    split
    · exact .of_draws _
    · exact (Keeps.of_draws (s.draws + 1)).trans (.of_mapEntry fun ordinary => by cases ordinary)

/-- Settles O3: what every step keeps holds the law of manager ports (R63). -/
theorem everyStepKeepsAManagerPort : Obligations.EveryStepKeepsAManagerPort := fun _ _ law next =>
  have ⟨_, keeps⟩ := step_keeps next
  keeps.manager law

/-- Settles O4: what every step keeps holds the law of credit (R93). -/
theorem everyStepKeepsCreditWithinBurst : Obligations.EveryStepKeepsCreditWithinBurst := fun _ _ law next =>
  have ⟨_, keeps⟩ := step_keeps next
  keeps.credit law

/-- Settles O5: what every step keeps holds both laws of the loan table (R25, R29). -/
theorem everyStepKeepsLoanLaws : Obligations.EveryStepKeepsLoanLaws := fun _ _ pair mode next =>
  have ⟨_, keeps⟩ := step_keeps next
  ⟨keeps.pair pair, keeps.mode mode⟩

/-- Settles O6: what every step keeps holds the law of slots (R69, R73) and that of waiters and owners (R116). -/
theorem everyStepKeepsSlotLaw : Obligations.EveryStepKeepsSlotLaw :=
  ⟨fun _ _ law next => have ⟨_, keeps⟩ := step_keeps next; keeps.slot law,
    fun _ _ law next => have ⟨_, keeps⟩ := step_keeps next; keeps.waiter law⟩

/-- Settles O7: what every step keeps holds the law of disks (R132, R135) and that of chains (R112, R113). -/
theorem everyStepKeepsDiskLaw : Obligations.EveryStepKeepsDiskLaw :=
  ⟨fun _ _ law next => have ⟨_, keeps⟩ := step_keeps next; keeps.disk law,
    fun _ _ law next => have ⟨_, keeps⟩ := step_keeps next; keeps.chain law⟩

/-- Settles O8: what every step keeps holds the law of locks (R154), whole again after each command, and that of claims
(8.6). -/
theorem everyStepKeepsLockLaw : Obligations.EveryStepKeepsLockLaw :=
  ⟨fun _ _ law next =>
      have ⟨_, keeps⟩ := step_keeps next
      State.lockLawBut_noPair.mp (keeps.lock (State.lockLawBut_noPair.mpr law)),
    fun _ _ law next => have ⟨_, keeps⟩ := step_keeps next; keeps.claim law⟩

/-- Settles O10: what a command keeps holds the set flags, but for POWER_ON and CLEAR NOTICES (R178). -/
theorem flagsStaySetUntilCleared : Obligations.FlagsStaySetUntilCleared := fun c s f notPowerOn notClear set =>
  have ⟨t, ran, keeps⟩ := exec_keeps c s
  ⟨t, ran, keeps.flags notPowerOn notClear f set⟩

/-- Settles O11: what a command keeps holds each loaded table, but for POWER_ON and the table's own write (R170, R176). -/
theorem loadedTablesChangeByTheirWritesAlone : Obligations.LoadedTablesChangeByTheirWritesAlone := fun c s notPowerOn =>
  have ⟨t, ran, keeps⟩ := exec_keeps c s
  ⟨t, ran, keeps.settings notPowerOn, keeps.classMap notPowerOn, keeps.masks notPowerOn⟩

end Sys2Proof.Machine
end

section
/-! PROOFS. The step and POWER_ON; then flags (R178, R179): what a raise does to the flags, to the details and to every
node link. -/

namespace Sys2Proof.Machine

/-- Settles O1: what a step does with a front command is its definition (log entry 24). -/
theorem stepRunsFrontCommand : Obligations.StepRunsFrontCommand := fun _ _ _ => rfl

theorem detailOf_reset (f : Flag) : State.reset.detailOf f = 0 := by cases f <;> rfl

/-- The mask bits at power-on: the NODE_DOWN and DISK_DOWN members, MAP_FAULT, MAP_LOSS and LOCK_BROKEN (9.1). -/
theorem maskOn_reset (f : Flag) :
    State.reset.maskOn f =
      match f with
      | .nodeDown _ | .diskDown _ | .mapFault | .mapLoss | .lockBroken => true
      | _ => false := by
  change masksReset.getLsbD f.number = _
  cases f with
  | nodeUp n | nodeDown n | diskUp n | diskDown n | diskTimeout n | diskError n => revert n; decide
  | loanLapse | mapCorrected | mapFault | mapLoss | lockBroken | lockout | tallyReady => decide

/-- Settles O2: every record after POWER_ON is the one of its Power-on column, table by table. -/
theorem powerOnGivesPowerOnValues : Obligations.PowerOnGivesPowerOnValues := by
  intro s
  refine ⟨_, rfl, rfl, rfl, reset_node, reset_diskLink, reset_slot, fun n => ?desk, reset_volume, reset_mapEntry,
    reset_loanAt, reset_meterOf, reset_tallyOf, rfl, rfl, reset_stage, rfl, rfl, rfl, reset_disk, reset_lockAt,
    reset_retryCount, rfl, rfl, rfl, rfl, rfl, fun f => ⟨?clear, detailOf_reset f, maskOn_reset f⟩, rfl, rfl, rfl, rfl⟩
  case desk =>
    have desk : State.desk { State.reset with pending := s.pending, draws := s.draws } n = Desk.reset := reset_desk n
    rw [desk]
    exact ⟨rfl, rfl⟩
  case clear => exact BitVec.getLsbD_zero

end Sys2Proof.Machine
end

section
/-! PROOFS. Flags (R178, R179): what a raise does to the flags, to the details and to every node link. -/

namespace Sys2Proof.Machine

variable {s : State}

/-! ## What a raise leaves of the management block -/

theorem Flag.number_injective {f g : Flag} (h : f.number = g.number) : f = g := by
  cases f <;> cases g <;> simp [Flag.number, Fin.ext_iff] at h ⊢ <;> omega

theorem setFlag_flagSet (f g : Flag) (s : State) : (setFlag f s).flagSet g = (s.flagSet g || decide (g = f)) := by
  have bit : (1#135 <<< f.number).getLsbD g.number = decide (g = f) := by
    have := g.number_lt
    by_cases h : g = f
    · subst h; simp [this]
    · have : g.number ≠ f.number := fun e => h (Flag.number_injective e)
      simp [h]
      omega
  simp only [State.flagSet, setFlag, BitVec.getLsbD_or, bit]

/-- A flag that is set already stays as it is. -/
theorem setFlag_of_set {f : Flag} (set : s.flagSet f = true) : setFlag f s = s := by
  have same : s.management.flags ||| (1#135 <<< f.number) = s.management.flags := by
    apply BitVec.eq_of_getLsbD_eq
    intro i lt
    by_cases h : i = f.number
    · subst h; simpa using fun _ => by exact set
    · simp
      omega
  rw [setFlag, same]

theorem raiseFlag_management (f : Flag) (x : Nat) (s : State) :
    (raiseFlag f x s).management = (setFlag f (recordDetail f x s)).management := by
  have recorded : (recordDetail f x s).flagSet f = s.flagSet f := by cases f <;> rfl
  obtain ⟨set, h⟩ | ⟨_, _, h⟩ | ⟨_, _, h⟩ := raiseFlag_cases f x s <;> rw [h]
  · rw [setFlag_of_set (recorded.trans set)]
  · simp

theorem recordDetail_flagSet (f g : Flag) (x : Nat) (s : State) : (recordDetail f x s).flagSet g = s.flagSet g := by
  cases f <;> rfl

theorem recordDetail_maskOn (f g : Flag) (x : Nat) (s : State) : (recordDetail f x s).maskOn g = s.maskOn g := by
  cases f <;> rfl

theorem recordDetail_detailOf_ne {f g : Flag} (h : g ≠ f) (x : Nat) (s : State) :
    (recordDetail f x s).detailOf g = s.detailOf g := by
  cases f <;> cases g <;> first | rfl | exact absurd rfl h

theorem raiseFlag_flagSet (f g : Flag) (x : Nat) (s : State) :
    (raiseFlag f x s).flagSet g = (s.flagSet g || decide (g = f)) := by
  rw [← recordDetail_flagSet f g x s, ← setFlag_flagSet, State.flagSet, raiseFlag_management, ← State.flagSet]

@[simp] theorem raiseFlag_flagSet_self (f : Flag) (x : Nat) (s : State) : (raiseFlag f x s).flagSet f = true := by
  simp [raiseFlag_flagSet]

theorem raiseFlag_detailOf (f g : Flag) (x : Nat) (s : State) :
    (raiseFlag f x s).detailOf g = (recordDetail f x s).detailOf g := by
  have management := raiseFlag_management f x s
  cases g <;> simp only [State.detailOf, management, setFlag]

theorem recordDetail_loaded (f : Flag) (x : Nat) (s : State) :
    (recordDetail f x s).management.masks = s.management.masks ∧
      (recordDetail f x s).management.settings = s.management.settings ∧
      (recordDetail f x s).management.classMap = s.management.classMap := by cases f <;> exact ⟨rfl, rfl, rfl⟩

theorem raiseFlag_loaded (f : Flag) (x : Nat) (s : State) :
    (raiseFlag f x s).management.masks = s.management.masks ∧
      (raiseFlag f x s).management.settings = s.management.settings ∧
      (raiseFlag f x s).management.classMap = s.management.classMap := by
  rw [raiseFlag_management]
  exact recordDetail_loaded f x s

@[simp] theorem raiseFlag_settings (f : Flag) (x : Nat) (s : State) : (raiseFlag f x s).settings = s.settings :=
  (raiseFlag_loaded f x s).2.1

/-! ## The NOTICE frames of a raise -/

/-- A node link after the NOTICE frames of a flag: one more frame for an UP manager port (R179). -/
def State.noticed (s : State) (f : Flag) (r : NodeLink) : NodeLink :=
  if r.state = .up ∧ r.manager = true then
    { r with out := r.out ++ [.notice f (s.detailOf f) s.management.flags], produced := true }
  else r

theorem State.noticed_of_management {t : State} (h : t.management = s.management) (f : Flag) (r : NodeLink) :
    t.noticed f r = s.noticed f r := by
  cases f <;> simp only [State.noticed, State.detailOf, h]

theorem noticeTo_node_eq (f : Flag) (n m : NodePort) (s : State) :
    (noticeTo f n s).node m = if m = n then s.noticed f (s.node m) else s.node m := by
  rw [noticeTo_node]
  by_cases h : m = n
  · subst h; simp only [true_and, State.noticed, if_true]
  · simp [h]

theorem noticeTo_link (f : Flag) (n : NodePort) (s : State) :
    (noticeTo f n s).link = { s.link with nodes := (noticeTo f n s).link.nodes } := by
  unfold noticeTo
  split <;> rfl

theorem noticeTo_fold_node (f : Flag) {l : List NodePort} (once : l.Nodup) (m : NodePort) (s : State) :
    (l.foldl (fun s n => noticeTo f n s) s).node m = if m ∈ l then s.noticed f (s.node m) else s.node m := by
  induction l generalizing s with
  | nil => rfl
  | cons n l ih =>
    obtain ⟨notIn, once⟩ := List.nodup_cons.mp once
    have management : (noticeTo f n s).management = s.management := by simp
    rw [List.foldl_cons, ih once, State.noticed_of_management management, noticeTo_node_eq]
    by_cases h : m = n
    · subst h; simp [notIn]
    · simp [h]

theorem noticeAll_node (f : Flag) (s : State) (n : NodePort) : (noticeAll f s).node n = s.noticed f (s.node n) :=
  (noticeTo_fold_node f (List.nodup_finRange 32) n s).trans (if_pos (List.mem_finRange n))

theorem noticeAll_link (f : Flag) (s : State) :
    (noticeAll f s).link = { s.link with nodes := (noticeAll f s).link.nodes } := by
  unfold noticeAll
  induction nodePorts generalizing s with
  | nil => rfl
  | cons n l ih => rw [List.foldl_cons, ih, noticeTo_link]

theorem raiseFlag_link (f : Flag) (x : Nat) (s : State) :
    (raiseFlag f x s).link = { s.link with nodes := (raiseFlag f x s).link.nodes } := by
  obtain ⟨_, h⟩ | ⟨_, _, h⟩ | ⟨_, _, h⟩ := raiseFlag_cases f x s <;> rw [h]
  · simp
  · rw [noticeAll_link]; simp
  · simp

@[simp] theorem raiseFlag_diskLink (f : Flag) (x : Nat) (s : State) (d : DiskPort) :
    (raiseFlag f x s).diskLink d = s.diskLink d := by
  have disks := congrArg LinkBlock.disks (raiseFlag_link f x s)
  simp only [State.diskLink, disks]

theorem raiseFlag_node (f : Flag) (x : Nat) (s : State) (n : NodePort) :
    (raiseFlag f x s).node n =
      if s.flagSet f = false ∧ s.maskOn f = true then (raiseFlag f x s).noticed f (s.node n) else s.node n := by
  have recorded : (setFlag f (recordDetail f x s)).node n = s.node n := by simp [State.node]
  obtain ⟨set, h⟩ | ⟨clear, mask, h⟩ | ⟨clear, mask, h⟩ := raiseFlag_cases f x s
  · rw [h, if_neg (by simp [set])]
    simp [State.node]
  · rw [h, if_pos ⟨clear, mask⟩, noticeAll_node, recorded]
    exact (State.noticed_of_management (by simp) f _).symm
  · rw [h, if_neg (by simp [mask]), recorded]

/-- Nothing but node links and the management block changes. -/
theorem raiseFlag_eq (f : Flag) (x : Nat) (s : State) :
    raiseFlag f x s =
      { s with
        link := { s.link with nodes := (raiseFlag f x s).link.nodes }
        management := (raiseFlag f x s).management } := by
  obtain ⟨admission, lending, loan, meter, stages, dispatch, lock, pending, draws⟩ := raiseFlag_frame f x s
  have link := raiseFlag_link f x s
  generalize raiseFlag f x s = t at *
  cases t
  simp only at *
  simp only [← link, admission, lending, loan, meter, stages, dispatch, lock, pending, draws]

/-- Settles O17, clause by clause: the flags, the details, the loaded tables, the node links, the rest. -/
theorem raisedFlagsAreSetAndNotified : Obligations.RaisedFlagsAreSetAndNotified := by
  intro f x s
  obtain ⟨masks, settings, classMap⟩ := raiseFlag_loaded f x s
  refine ⟨raiseFlag_flagSet_self f x s, fun g other => ⟨?_, ?_⟩, fun detailed => ?_, masks, settings, classMap, fun n => ?_,
    raiseFlag_eq f x s⟩
  · simp [raiseFlag_flagSet, other]
  · rw [raiseFlag_detailOf, recordDetail_detailOf_ne other]
  · rw [raiseFlag_detailOf]
    rcases detailed with rfl | rfl | rfl | rfl <;> rfl
  · rw [raiseFlag_node]
    simp only [State.noticed]
    by_cases raises : s.flagSet f = false ∧ s.maskOn f = true
    · simp only [raises, true_and, and_self, if_true]
    · rw [if_neg raises, if_neg (fun h => raises ⟨h.1, h.2.1⟩)]

end Sys2Proof.Machine
end

section
/-! PROOFS. Links: damaged frames, good frames, and the frames a link sends (03). -/

namespace Sys2Proof.Machine

variable {s : State}

/-! ## A record written as it stands -/

@[simp] theorem setNode_self (n : NodePort) (s : State) : s.setNode n (s.node n) = s := by
  simp [State.setNode, State.node]

@[simp] theorem setDiskLink_self (d : DiskPort) (s : State) : s.setDiskLink d (s.diskLink d) = s := by
  simp [State.setDiskLink, State.diskLink]

/-- Settles O14: the check decides the command, and the command writes one count of one link (R48). -/
theorem damagedFramesAreOnlyCounted : Obligations.DamagedFramesAreOnlyCounted := by
  refine ⟨fun l bytes fails => ?check, fun n s => ⟨_, rfl, ?node, fun m other => ?otherNode, rfl⟩,
    fun d s => ⟨_, rfl, ?disk, fun m other => ?otherDisk, rfl⟩⟩
  case check => rw [commandOfFrame, fails]; rfl
  case node => exact State.setNode_node ..
  case otherNode => exact State.setNode_node_ne _ _ _ _ other
  case disk => exact State.setDiskLink_diskLink ..
  case otherDisk => exact State.setDiskLink_diskLink_ne _ _ _ _ other

/-! ## MANAGE commands as one operation -/

/-- Every MANAGE command is its frame taken and served, and answered with its operation (R171). -/
theorem exec_eq_manage {c : Instr} {h : ManageHeader} (header : headerOf c = some h) :
    ∃ table index serve, ∀ s, exec c s = .next (manage h (operationOf c) table index serve s) := by
  cases c <;> cases header <;> exact ⟨_, _, _, fun _ => rfl⟩

/-- The frame a MANAGE command came in is all it reads before it is served. -/
theorem manage_congr {h : ManageHeader} {t : State} (taken : takeManage h s = takeManage h t) (operation table : Byte)
    (index : BitVec 16) (serve : State → Served) :
    manage h operation table index serve s = manage h operation table index serve t := by
  simp only [manage, taken]

/-! ## Good frames -/

/-- A DOWN node link that has just gone UP (R49). -/
def wokenNode (n : NodePort) (s : State) : State :=
  raiseFlag (.nodeUp n) 0 (s.setNode n { s.node n with silence := 0, state := .up })

theorem State.noticed_fields (s : State) (f : Flag) (r : NodeLink) :
    (s.noticed f r).state = r.state ∧ (s.noticed f r).silence = r.silence ∧ (s.noticed f r).manager = r.manager := by
  unfold State.noticed
  split <;> exact ⟨rfl, rfl, rfl⟩

theorem raiseFlag_node_fields (f : Flag) (x : Nat) (s : State) (n : NodePort) :
    ((raiseFlag f x s).node n).state = (s.node n).state ∧ ((raiseFlag f x s).node n).silence = (s.node n).silence ∧
      ((raiseFlag f x s).node n).manager = (s.node n).manager := by
  rw [raiseFlag_node]
  split
  · exact State.noticed_fields ..
  · exact ⟨rfl, rfl, rfl⟩

theorem wokenNode_node (n : NodePort) (s : State) :
    ((wokenNode n s).node n).state = .up ∧ ((wokenNode n s).node n).silence = 0 := by
  obtain ⟨state, silence, _⟩ :=
    raiseFlag_node_fields (.nodeUp n) 0 (s.setNode n { s.node n with silence := 0, state := .up }) n
  rw [State.setNode_node] at state silence
  exact ⟨state, silence⟩

/-- The frame of a DOWN link is taken as by the link that has just gone UP, where it changes nothing more. -/
theorem goodNodeFrame_wokenNode {n : NodePort} (down : (s.node n).state = .down) :
    goodNodeFrame n s = wokenNode n s ∧ goodNodeFrame n (wokenNode n s) = wokenNode n s := by
  obtain ⟨state, silence⟩ := wokenNode_node n s
  refine ⟨goodNodeFrame_down down, ?_⟩
  have same : { (wokenNode n s).node n with silence := 0 } = (wokenNode n s).node n := by rw [← silence]
  rw [goodNodeFrame_up state, same, setNode_self]

/-- Settles O15, by the link's state: UP, DOWN, and a disk link, whose frames raise no flag (R49 to R51). -/
theorem goodFramesResetSilenceAndBringLinksUp : Obligations.GoodFramesResetSilenceAndBringLinksUp := by
  intro s n d
  refine ⟨fun up => ?up, fun down => ?down, rfl, rfl⟩
  case up =>
    have taken : (Host.Outcome.next (goodNodeFrame n s) : Result) = .next (heardOn n s) :=
      congrArg Host.Outcome.next (goodNodeFrame_eq_heardOn up)
    exact ⟨taken, taken⟩
  case down =>
    obtain ⟨woken, again⟩ := goodNodeFrame_wokenNode down
    obtain ⟨state, silence⟩ := wokenNode_node n s
    have taken : (Host.Outcome.next (goodNodeFrame n s) : Result) = .next (wokenNode n s) :=
      congrArg Host.Outcome.next woken
    have agrees : goodNodeFrame n s = goodNodeFrame n (wokenNode n s) := woken.trans again.symm
    refine ⟨state, silence, raiseFlag_flagSet_self .., taken, taken, fun v => ?_, fun f => ?_,
      fun c h header port fresh => ?_⟩
    · exact congrArg (fun t => Host.Outcome.next (renewPair v n t)) agrees
    · exact congrArg (fun t => Host.Outcome.next (arrive n f t)) agrees
    · obtain ⟨table, index, serve, eq⟩ := exec_eq_manage header
      rw [eq, eq]
      have same : takeManage h s = takeManage h (wokenNode n s) := by
        rw [takeManage, takeManage, fresh, port]
        exact agrees
      exact congrArg Host.Outcome.next (manage_congr same ..)

/-! ## Every MANAGE frame is answered -/

/-- Settles O51: the reply is put on the list after everything else the command does (R171). -/
theorem everyManageFrameIsAnsweredLast : Obligations.EveryManageFrameIsAnsweredLast := by
  intro c h s header
  obtain ⟨table, index, serve, eq⟩ := exec_eq_manage header
  refine ⟨_, eq s, fun up => ?_⟩
  have answered : ∃ r : Served, manage h (operationOf c) table index serve s = replyTo h (operationOf c) table r := by
    unfold manage
    dsimp only
    split
    · exact ⟨_, rfl⟩
    · exact ⟨_, rfl⟩
  obtain ⟨r, replies⟩ := answered
  rw [replies] at up ⊢
  rw [replyTo, produceNode_node, if_pos rfl] at up ⊢
  exact ⟨_, _, _, _, _, by rw [if_pos up]⟩

end Sys2Proof.Machine
end

section
/-! PROOFS. Management: what taking a MANAGE frame leaves alone; then table access by its index, and the refusals of
R171. -/

namespace Sys2Proof.Machine

variable {h : ManageHeader} {s : State}

/-! ## The frame taken -/

theorem heardOn_eq (n : NodePort) (s : State) :
    heardOn n s = { s with link := { s.link with nodes := (heardOn n s).link.nodes } } := rfl

theorem heard_eq (h : ManageHeader) (s : State) :
    heard h s = { s with link := { s.link with nodes := (heard h s).link.nodes } } := by
  unfold heard
  split <;> rfl

@[simp] theorem heard_frame (h : ManageHeader) (s : State) :
    (heard h s).admission = s.admission ∧ (heard h s).lending = s.lending ∧ (heard h s).loan = s.loan ∧
      (heard h s).meter = s.meter ∧ (heard h s).stages = s.stages ∧ (heard h s).dispatch = s.dispatch ∧
      (heard h s).lock = s.lock ∧ (heard h s).link.disks = s.link.disks := by
  unfold heard
  split <;> exact ⟨rfl, rfl, rfl, rfl, rfl, rfl, rfl, rfl⟩

@[simp] theorem heard_disk (h : ManageHeader) (s : State) (d : DiskPort) : (heard h s).disk d = s.disk d := by
  simp [State.disk]

@[simp] theorem heard_volume (h : ManageHeader) (s : State) (v : Volume) : (heard h s).volume v = s.volume v := by
  simp [State.volume]

@[simp] theorem heard_mapEntry (h : ManageHeader) (s : State) (i : MapIdx) : (heard h s).mapEntry i = s.mapEntry i := by
  simp [State.mapEntry]

@[simp] theorem heard_meterOf (h : ManageHeader) (s : State) (n : NodePort) : (heard h s).meterOf n = s.meterOf n := by
  simp [State.meterOf]

@[simp] theorem heard_desk (h : ManageHeader) (s : State) (n : NodePort) : (heard h s).desk n = s.desk n := by
  simp [State.desk]

@[simp] theorem heard_slot (h : ManageHeader) (s : State) (n : NodePort) (k : SlotIdx) :
    (heard h s).slot n k = s.slot n k := by simp [State.slot]

@[simp] theorem heard_headWaits (h : ManageHeader) (s : State) (n : NodePort) (w : WaitFor) :
    (heard h s).headWaits n w = s.headWaits n w := by simp [State.headWaits, State.headOf]

theorem heard_node (h : ManageHeader) (s : State) (n : NodePort) :
    (heard h s).node n = { s.node n with silence := ((heard h s).node n).silence } := by
  unfold heard
  split
  · rfl
  · rw [heardOn, State.setNode_node_eq]
    split
    · next same => subst same; rfl
    · rfl

@[simp] theorem heard_manager (h : ManageHeader) (s : State) (n : NodePort) :
    ((heard h s).node n).manager = (s.node n).manager := by rw [heard_node]

@[simp] theorem heard_otherManager (h : ManageHeader) (s : State) (n : NodePort) :
    (heard h s).otherManager n = s.otherManager n := by simp [State.otherManager]

@[simp] theorem heard_settings (h : ManageHeader) (s : State) : (heard h s).settings = s.settings := by
  simp [State.settings]

/-- An answer stands on a node link alone. -/
theorem replied_eq (n : NodePort) (f : NodeFrame) (s : State) :
    replied n f s = { s with link := { s.link with nodes := (replied n f s).link.nodes } } := rfl

/-! ## Table access by index -/

section Access

variable {index : BitVec 16} {size len : Nat} {image : List Byte}
  {put : Fin size → List Byte → State → State × ReplyStatus}

theorem plainRead_of_index (managed : s.managedBy h) {i : Fin size} (isIndex : index.toNat = i.val)
    (f : Fin size → State → List Byte) (table : Table) :
    readEntry h table index size (plainRead f) s =
      replied h.port (.manageReply h.tag 1 .ok table.code index (f i (heard h s))) (heard h s) :=
  readEntry_of_index managed isIndex rfl (heard_up managed) table

theorem writeEntry_of_out_of_range (managed : s.managedBy h) (outOfRange : size ≤ index.toNat) (table : Table) :
    writeEntry h table index image size len put s =
      replied h.port (.manageReply h.tag 2 .badIndex table.code index []) (heard h s) :=
  manage_eq_replied (r := ⟨heard h s, .badIndex, index, []⟩) managed (by simp [outOfRange.not_gt]) (heard_up managed) ..

theorem writeEntry_of_length (managed : s.managedBy h) (inRange : index.toNat < size) (otherLength : image.length ≠ len)
    (table : Table) :
    writeEntry h table index image size len put s =
      replied h.port (.manageReply h.tag 2 .badValue table.code index []) (heard h s) :=
  manage_eq_replied (r := ⟨heard h s, .badValue, index, []⟩) managed (by simp [inRange, otherLength])
    (heard_up managed) ..

theorem writeEntry_of_index (managed : s.managedBy h) {i : Fin size} (isIndex : index.toNat = i.val)
    (length : image.length = len) {t : State} {status : ReplyStatus} (written : put i image (heard h s) = (t, status))
    (up : (t.node h.port).state = .up) (table : Table) :
    writeEntry h table index image size len put s =
      replied h.port (.manageReply h.tag 2 status table.code index []) t := by
  have inRange : index.toNat < size := isIndex ▸ i.isLt
  have entry : (⟨index.toNat, inRange⟩ : Fin size) = i := Fin.ext isIndex
  exact manage_eq_replied (r := ⟨t, status, index, []⟩) managed (by simp [inRange, entry, written, length]) up ..

end Access

/-- Settles O54, table by table at its bound (R171, R173). -/
theorem accessesOutOfRangeChangeNothing : Obligations.AccessesOutOfRangeChangeNothing := by
  intro h index image s managed
  have read {size} {get : Fin size → State → State × ReplyStatus × List Byte} (table : Table)
      (above : size - 1 < index.toNat) :
      (Host.Outcome.next (readEntry h table index size get s) : Result) =
        .next (replied h.port (.manageReply h.tag 1 .badIndex table.code index []) (heard h s)) :=
    congrArg _ (readEntry_of_out_of_range managed (by omega) table)
  have write {size len} {put : Fin size → List Byte → State → State × ReplyStatus} (table : Table)
      (above : size - 1 < index.toNat) :
      (Host.Outcome.next (writeEntry h table index image size len put s) : Result) =
        .next (replied h.port (.manageReply h.tag 2 .badIndex table.code index []) (heard h s)) :=
    congrArg _ (writeEntry_of_out_of_range managed (by omega) table)
  refine ⟨fun a => ⟨read .settings a, read .lockout a, read .notice a, write .settings a, write .notice a⟩,
    fun a => ⟨read .port a, read .meter a, write .port a, write .meter a⟩, fun a => ⟨read .disk a, write .disk a⟩,
    fun a => ⟨read .volume a, read .stage a, write .volume a⟩, fun a => ⟨read .map a, write .map a⟩,
    fun a => ⟨read .loan a, read .request a⟩, fun a => ⟨read .classmap a, write .classmap a⟩, fun a => read .lock a,
    fun table => ?readOnly⟩
  case readOnly =>
    rw [exec_writeEntryReadOnly_of_managedBy managed]
    cases table <;> rfl

/-! ## Refusals of R171 -/

theorem namesTable_iff {operation : Byte} : namesTable operation = true ↔ operation = 1 ∨ operation = 2 := by
  simp [namesTable]

theorem badOperationStatus_of_not_servable {operation : Byte} {operands : List Byte}
    (refused : servable operation operands = false) :
    badOperationStatus operation operands =
      if (operation = 1 ∨ operation = 2) ∧ 4 ≤ operands.length then .badTable else .badValue := by
  unfold badOperationStatus
  by_cases complete : (operation = 1 ∨ operation = 2) ∧ 4 ≤ operands.length
  · obtain ⟨names, enough⟩ := complete
    have bytes : operandBytes operation.toNat = some 4 := by rcases names with rfl | rfl <;> rfl
    have other : (operation == 8) = false := by rcases names with rfl | rfl <;> rfl
    have table : (operation == 1 || operation == 2) = true := namesTable_iff.mpr names
    have above : 13 < field operands 0 1 := by
      simpa only [servable, bytes, table, other, enough, decide_true, Bool.not_true, Bool.not_false, Bool.true_or,
        Bool.false_or, Bool.true_and, Bool.and_true, decide_eq_false_iff_not, Nat.not_le] using refused
    rw [if_pos ⟨namesTable_iff.mpr names, enough, above⟩, if_pos ⟨names, enough⟩]
  · rw [if_neg complete, if_neg fun x => complete ⟨namesTable_iff.mp x.1, x.2.1⟩]

theorem heard_of_up (up : (s.node h.port).state = .up) : takeManage h s = heard h s := by
  rw [takeManage, heard, goodNodeFrame_eq_heardOn up]

/-- Settles O60: check 1 of R171 for every MANAGE command at once, then checks 2 and 3 and the range of RESTART PORT. -/
theorem refusedManageFramesChangeNothing : Obligations.RefusedManageFramesChangeNothing := by
  refine ⟨fun c h s header up noManager => ?notPermitted, fun h s managed =>
    ⟨fun operation operands refused => ?badOperation, fun port above => ?node, fun port above => ?disk⟩⟩
  case notPermitted =>
    obtain ⟨table, index, serve, eq⟩ := exec_eq_manage header
    have stays : ((heard h s).node h.port).state = .up := by rw [heard_node]; exact up
    refine ⟨table, index, ?_⟩
    rw [eq, manage_refused up noManager, heard_of_up up, replyTo_eq_replied stays]
  case badOperation =>
    rw [← badOperationStatus_of_not_servable refused]
    exact ⟨badOperationTable operation operands, badOperationIndex operation operands,
      congrArg Host.Outcome.next (manage_eq_replied (r := ⟨heard h s, _, _, []⟩) managed rfl (heard_up managed) ..)⟩
  case node =>
    have served : serveRestartNode port (heard h s) = (heard h s, .badIndex) := by
      rw [serveRestartNode, dif_neg (by omega)]
    exact congrArg Host.Outcome.next (manageOp_eq_replied managed served (heard_up managed) 8)
  case disk =>
    have served : serveRestartDisk port (heard h s) = (heard h s, .badIndex) := by
      rw [serveRestartDisk, dif_neg (by omega)]
    exact congrArg Host.Outcome.next (manageOp_eq_replied managed served (heard_up managed) 8)

/-! ## READ ENTRY of MAP -/

/-- The reply status of a read of the map by its check outcome (R22). -/
def CheckOutcome.readStatus : CheckOutcome → ReplyStatus
  | .clean => .ok
  | .corrected => .okCorrected
  | .uncorrectable => .mapFault

theorem readMap_eq (i : MapIdx) (s : State) :
    readMap i s = (readMapEntry i s, (s.mapEntry i).yields.readStatus, mapImage ((readMapEntry i s).mapEntry i)) := by
  unfold readMap
  cases (s.mapEntry i).yields <;> rfl

/-- Settles O53, by what the check code makes of the entry (R18, R22, R23). -/
theorem mapReadsReportTheirOutcome : Obligations.MapReadsReportTheirOutcome := by
  intro h index i s managed isIndex
  have up := heard_up managed
  have stored : (heard h s).mapEntry i = s.mapEntry i := heard_mapEntry ..
  have answer {t : State} {status : ReplyStatus} (read : readMapEntry i (heard h s) = t)
      (status_eq : (s.mapEntry i).yields.readStatus = status)
      (stays : (t.node h.port).state = .up) :
      exec (.readEntryMap h index) s =
        .next (replied h.port (.manageReply h.tag 1 status 4 index (mapImage (t.mapEntry i))) t) := by
    refine congrArg Host.Outcome.next (readEntry_of_index managed isIndex ?_ stays .map)
    rw [readMap_eq, read, stored, status_eq]
  refine ⟨fun intact => ?intact, fun original recoverable => ?recoverable, fun lost => ?lost⟩
  case intact =>
    have read : readMapEntry i (heard h s) =
        (heard h s).setMapEntry i { s.mapEntry i with outcome := .clean } := by
      simp [readMapEntry, MapEntry.yields, MapEntry.afterRead, intact]
    rw [answer (status := .ok) read (by rw [MapEntry.yields, intact]; rfl) (by simpa using up), State.setMapEntry_mapEntry]
  case recoverable =>
    have read : readMapEntry i (heard h s) = raiseFlag .mapCorrected i.val
        ((heard h s).setMapEntry i { stored := original, condition := .intact, outcome := .corrected }) := by
      simp [readMapEntry, MapEntry.yields, MapEntry.afterRead, recoverable]
    rw [answer (status := .okCorrected) read (by rw [MapEntry.yields, recoverable]; rfl)
      (by rw [(raiseFlag_node_fields ..).1]; simpa using up)]
    simp [State.mapEntry, State.setMapEntry]
  case lost =>
    have read : readMapEntry i (heard h s) =
        (heard h s).setMapEntry i { s.mapEntry i with outcome := .uncorrectable } := by
      simp [readMapEntry, MapEntry.yields, MapEntry.afterRead, lost]
    rw [answer (status := .mapFault) read (by rw [MapEntry.yields, lost]; rfl) (by simpa using up), State.setMapEntry_mapEntry]

end Sys2Proof.Machine
end

section
/-! PROOFS. Management: WRITE ENTRY of the tables by the fields of the image (R173, 10.6). First what the fields of an
image are decoded to. -/

namespace Sys2Proof.Machine

/-! ## Fields of a written image -/

theorem boolField_eq (b : List Byte) (off : Nat) :
    boolField b off = if field b off 1 ≤ 1 then some (decide (field b off 1 = 1)) else none := by
  unfold boolField
  generalize field b off 1 = x
  rcases x with _ | _ | x
  · rfl
  · rfl
  · simp

theorem Scale.ofCode_eq (x : Nat) :
    Scale.ofCode x = if x ≤ 1 then some (if x = 0 then .normal else .short) else none := by
  rcases x with _ | _ | x
  · rfl
  · rfl
  · simp [Scale.ofCode]

theorem VolState.ofCode_code (x : VolState) : VolState.ofCode x.code = some x := by cases x <;> rfl

theorem VolState.ofCode_of_above {x : Nat} (above : 2 < x) : VolState.ofCode x = none := by
  obtain ⟨y, rfl⟩ := Nat.exists_eq_add_of_lt above
  have : 2 + y + 1 = y + 3 := by omega
  rw [this]
  rfl

/-- The ranges of R175, any of which refuses a settings image. -/
def settingsOutOfRange (b : List Byte) : Prop :=
  field b 10 1 = 0 ∨ field b 11 1 = 0 ∨ field b 13 1 = 0 ∨ 15 < field b 13 1 ∨ field b 14 1 = 0 ∨ 15 < field b 12 1 ∨
    15 < field b 15 1 ∨ 15 < field b 16 1 ∨ 1 < field b 5 1 ∨ 1 < field b 17 1

theorem settingsOfImage_of_out_of_range {b : List Byte} (out : settingsOutOfRange b) : settingsOfImage b = none := by
  simp only [settingsOfImage, Scale.ofCode_eq, boolField_eq]
  unfold settingsOutOfRange at out
  by_cases scale : field b 5 1 ≤ 1
  · by_cases disabled : field b 17 1 ≤ 1
    · simp only [scale, disabled, if_true]
      rw [if_pos (by omega)]
    · simp only [scale, disabled, if_true, if_false]
  · simp only [scale, if_false]

theorem settingsOfImage_of_in_range {b : List Byte} (inRange : ¬settingsOutOfRange b) :
    settingsOfImage b =
      some
        { portReload := field b 6 1, meterReload := field b 7 1, lendingReload := field b 8 2,
          scale := if field b 5 1 = 0 then .normal else .short, silenceLimit := field b 10 1,
          holdLimit := field b 11 1, lockoutLimit := field b 12 1, lockoutTime := field b 13 1,
          tallyPeriod := field b 14 1, responseTimeout := field b 15 1, retryTimeout := field b 16 1,
          timeoutsDisabled := decide (field b 17 1 = 1) } := by
  unfold settingsOutOfRange at inRange
  have scale : field b 5 1 ≤ 1 := by omega
  have disabled : field b 17 1 ≤ 1 := by omega
  simp only [settingsOfImage, Scale.ofCode_eq, boolField_eq, scale, disabled, if_true]
  rw [if_neg (by omega)]

theorem portOfImage_of_out_of_range {b : List Byte} (out : 1 < field b 1 1 ∨ 3 < field b 2 1) : portOfImage b = none := by
  simp only [portOfImage, boolField_eq]
  by_cases manager : field b 1 1 ≤ 1
  · simp only [manager, if_true]
    rw [dif_neg (by omega)]
  · simp only [manager, if_false]

theorem portOfImage_of_in_range {b : List Byte} {c : Class} (ceiling : field b 2 1 = c.val) (manager : field b 1 1 ≤ 1) :
    portOfImage b = some (decide (field b 1 1 = 1), c) := by
  simp only [portOfImage, boolField_eq, manager, if_true, ceiling, c.isLt, dite_true]

theorem volumeOfImage_of_out_of_range {b : List Byte} {old : VolumeEntry}
    (out : 2 < field b 0 1 ∨ 1 < field b 1 1 ∨ 4095 < field b 2 2 ∨ 256 < field b 4 2) : volumeOfImage b old = none := by
  simp only [volumeOfImage, boolField_eq]
  split
  · next state enable code bool =>
    have coded : ¬2 < field b 0 1 := fun above => by rw [VolState.ofCode_of_above above] at code; cases code
    have isBool : field b 1 1 ≤ 1 := by
      by_contra above
      rw [if_neg above] at bool
      cases bool
    split
    · rw [if_neg (by omega)]
    · rfl
  · rfl

theorem volumeOfImage_of_in_range {b : List Byte} {old : VolumeEntry} {state : VolState} {first : MapIdx}
    (code : state.code = field b 0 1) (index : first.val = field b 2 2) (enable : field b 1 1 ≤ 1)
    (extents : field b 4 2 ≤ 256) :
    volumeOfImage b old =
      some { state := state, first := first, extents := field b 4 2, lockoutEnable := decide (field b 1 1 = 1),
             inFlight := old.inFlight } := by
  simp only [volumeOfImage, boolField_eq, enable, if_true, ← code, VolState.ofCode_code, ← index, first.isLt, dite_true,
    extents]

/-! ## The commands -/

section Writes

variable {h : ManageHeader} {s t : State} {index : BitVec 16} {b : List Byte} {status : ReplyStatus}

theorem putSettings_of_image {x : Settings} (i : Fin 1) (image : settingsOfImage b = some x) (s : State) :
    putSettings i b s = ({ s with management := { s.management with settings := x } }, .ok) := by
  rw [putSettings, image]

/-- Settles O56, by the ranges of R175. -/
theorem settingsAreWrittenWholeOrNotAtAll : Obligations.SettingsAreWrittenWholeOrNotAtAll := by
  intro h b s managed length
  have written {t : State} {status : ReplyStatus} (put : putSettings 0 b (heard h s) = (t, status))
      (up : (t.node h.port).state = .up) :
      exec (.writeEntrySettings h 0 b) s = .next (replied h.port (.manageReply h.tag 2 status 0 0 []) t) :=
    congrArg Host.Outcome.next (writeEntry_of_index (index := 0) (i := (0 : Fin 1)) managed rfl length put up .settings)
  refine ⟨fun out => written ?_ (heard_up managed), fun inRange => ?_⟩
  · rw [putSettings, settingsOfImage_of_out_of_range out]
  · have put := putSettings_of_image 0 (settingsOfImage_of_in_range inRange) (heard h s)
    rw [written put (heard_up managed), heard_management]

theorem exec_writeEntryPort {n : NodePort} (managed : s.managedBy h) (isIndex : index.toNat = n.val) (length : b.length = 8)
    (put : putPort n b (heard h s) = (t, status)) (up : (t.node h.port).state = .up) :
    exec (.writeEntryPort h index b) s = .next (replied h.port (.manageReply h.tag 2 status 1 index []) t) :=
  congrArg Host.Outcome.next (writeEntry_of_index managed isIndex length put up .port)

theorem exec_writeEntryVolume {v : Volume} (managed : s.managedBy h) (isIndex : index.toNat = v.val)
    (length : b.length = 8) (put : putVolume v b (heard h s) = (t, status)) (up : (t.node h.port).state = .up) :
    exec (.writeEntryVolume h index b) s = .next (replied h.port (.manageReply h.tag 2 status 3 index []) t) :=
  congrArg Host.Outcome.next (writeEntry_of_index managed isIndex length put up .volume)

theorem exec_writeEntryClassmap {x : Fin 8} (managed : s.managedBy h) (isIndex : index.toNat = x.val)
    (length : b.length = 1) (put : putClass x b (heard h s) = (t, status)) (up : (t.node h.port).state = .up) :
    exec (.writeEntryClassmap h index b) s = .next (replied h.port (.manageReply h.tag 2 status 6 index []) t) :=
  congrArg Host.Outcome.next (writeEntry_of_index managed isIndex length put up .classmap)

theorem State.otherManager_iff {n : NodePort} :
    s.otherManager n = true ↔ ∃ m, m ≠ n ∧ (s.node m).manager = true := by
  simp [State.otherManager, nodePorts]

theorem putPort_of_image {n : NodePort} {manager : Bool} {c : Class} (image : portOfImage b = some (manager, c)) (s : State) :
    putPort n b s =
      if manager || s.otherManager n then (s.setNode n { s.node n with manager := manager, ceiling := c }, .ok)
      else (s, .conflict) := by
  rw [putPort, image]

/-- WRITE ENTRY of PORT by its image: out of range, no manager port left, accepted (R63). -/
theorem writeEntryPort_obeys (managed : s.managedBy h) {n : NodePort} (isIndex : index.toNat = n.val)
    (length : b.length = 8) :
    (1 < field b 1 1 ∨ 3 < field b 2 1 → exec (.writeEntryPort h index b) s =
      .next (replied h.port (.manageReply h.tag 2 .badValue 1 index []) (heard h s))) ∧
    (field b 1 1 = 0 → field b 2 1 ≤ 3 → (∀ m, m ≠ n → (s.node m).manager = false) →
      exec (.writeEntryPort h index b) s =
        .next (replied h.port (.manageReply h.tag 2 .conflict 1 index []) (heard h s))) ∧
    ∀ c : Class, field b 2 1 = c.val → field b 1 1 ≤ 1 →
      (field b 1 1 = 1 ∨ ∃ m, m ≠ n ∧ (s.node m).manager = true) → exec (.writeEntryPort h index b) s =
        .next (replied h.port (.manageReply h.tag 2 .ok 1 index []) ((heard h s).setNode n
          { (heard h s).node n with manager := decide (field b 1 1 = 1), ceiling := c })) := by
  have up := heard_up managed
  refine ⟨fun out => ?range, fun noManager ceiling alone => ?conflict, fun c ceiling isBool stays => ?accepted⟩
  case range =>
    exact exec_writeEntryPort managed isIndex length (by rw [putPort, portOfImage_of_out_of_range out]) up
  case conflict =>
    have image := portOfImage_of_in_range (b := b) (c := ⟨field b 2 1, by omega⟩) rfl (by omega)
    have none : ((heard h s).otherManager n) = false := by
      rw [Bool.eq_false_iff, ne_eq, State.otherManager_iff]
      rintro ⟨m, other, manager⟩
      rw [heard_manager, alone m other] at manager
      cases manager
    exact exec_writeEntryPort managed isIndex length
      (by rw [putPort_of_image image, none, noManager]; rfl) up
  case accepted =>
    have keeps : (decide (field b 1 1 = 1) || (heard h s).otherManager n) = true := by
      rw [heard_otherManager, Bool.or_eq_true, decide_eq_true_iff, State.otherManager_iff]
      exact stays
    refine exec_writeEntryPort managed isIndex length
      (by rw [putPort_of_image (portOfImage_of_in_range ceiling isBool), keeps, if_pos rfl]) ?_
    rw [State.setNode_node_eq]
    split
    · next same => rw [← same]; exact up
    · exact up

theorem putNotice_eq (i : Fin 1) (b : List Byte) (s : State) :
    putNotice i b s =
      ({ s with management := { s.management with masks := flagImageOfBytes (b.drop 25) } }, .ok) := rfl

theorem putDisk_eq (d : DiskPort) (b : List Byte) (s : State) :
    putDisk d b s =
      if 1 ≤ field b 2 1 ∧ field b 2 1 ≤ 8 then (s.setDisk d { s.disk d with depth := field b 2 1 }, .ok)
      else (s, .badValue) := by
  unfold putDisk depthOfImage
  by_cases inRange : 1 ≤ field b 2 1 ∧ field b 2 1 ≤ 8 <;> simp only [inRange, and_self, if_true, if_false]

theorem writeEntryDisk_obeys (managed : s.managedBy h) {d : DiskPort} (isIndex : index.toNat = d.val)
    (length : b.length = 20) :
    exec (.writeEntryDisk h index b) s =
      if 1 ≤ field b 2 1 ∧ field b 2 1 ≤ 8 then
        .next (replied h.port (.manageReply h.tag 2 .ok 2 index [])
          ((heard h s).setDisk d { s.disk d with depth := field b 2 1 }))
      else .next (replied h.port (.manageReply h.tag 2 .badValue 2 index []) (heard h s)) := by
  have put := putDisk_eq d b (heard h s)
  have up := heard_up managed
  rw [heard_disk] at put
  split at put
  · next inRange =>
    rw [if_pos inRange]
    exact congrArg Host.Outcome.next (writeEntry_of_index managed isIndex length put up .disk)
  · next outOfRange =>
    rw [if_neg outOfRange]
    exact congrArg Host.Outcome.next (writeEntry_of_index managed isIndex length put up .disk)

/-- Settles O57, table by table, then the lengths (R2, R63, R132, R173, R177, R180). -/
theorem writesObeyTheirRanges : Obligations.WritesObeyTheirRanges := by
  refine ⟨fun h index b s managed => ?ranges, fun h index b s managed => ?lengths⟩
  case ranges =>
    have up := heard_up managed
    refine ⟨fun n => writeEntryPort_obeys managed, fun d => writeEntryDisk_obeys managed,
      fun x c isIndex length inRange => ?cls, fun inRange length above => ?noClass, fun isIndex length => ?notice,
      fun v isIndex length => ⟨fun out => ?noVolume, fun state first code index enable extents => ?volume⟩⟩
    case cls =>
      refine exec_writeEntryClassmap managed isIndex length ?_ (t := { heard h s with management := _ }) up
      simp only [putClass, classOfImage, inRange, c.isLt, dite_true, heard_management]
    case noClass =>
      refine exec_writeEntryClassmap (x := ⟨index.toNat, inRange⟩) managed rfl length ?_ up
      rw [putClass, classOfImage, dif_neg (by omega)]
    case notice =>
      have put := putNotice_eq 0 b (heard h s)
      rw [heard_management] at put
      exact congrArg Host.Outcome.next (writeEntry_of_index (i := (0 : Fin 1)) managed isIndex length put up .notice)
    case noVolume =>
      exact exec_writeEntryVolume managed isIndex length (by rw [putVolume, volumeOfImage_of_out_of_range out]) up
    case volume =>
      refine exec_writeEntryVolume managed isIndex length ?_ up
      rw [putVolume, volumeOfImage_of_in_range code index enable extents, heard_volume]
  case lengths =>
    have refuse {size len} {put : Fin size → List Byte → State → State × ReplyStatus} (table : Table)
        (inRange : index.toNat < size) (other : b.length ≠ len) :
        (Host.Outcome.next (writeEntry h table index b size len put s) : Result) =
          .next (replied h.port (.manageReply h.tag 2 .badValue table.code index []) (heard h s)) :=
      congrArg _ (writeEntry_of_length managed inRange other table)
    exact ⟨refuse .settings, fun i l => ⟨refuse .port i l, refuse .meter i l⟩, refuse .disk, refuse .volume, refuse .map,
      refuse .classmap, refuse .notice⟩

/-! ## WRITE ENTRY of METER -/

theorem exec_writeEntryMeter {n : NodePort} (managed : s.managedBy h) (isIndex : index.toNat = n.val)
    (length : b.length = 8) (put : putMeter n b (heard h s) = (t, status)) (up : (t.node h.port).state = .up) :
    exec (.writeEntryMeter h index b) s = .next (replied h.port (.manageReply h.tag 2 status 7 index []) t) :=
  congrArg Host.Outcome.next (writeEntry_of_index managed isIndex length put up .meter)

theorem meterOfImage_of_in_range {old : Meter} (fraction : field b 1 1 ≤ 15) (low : 64 ≤ field b 2 2)
    (high : field b 2 2 ≤ 4095) :
    meterOfImage b old =
      some
        { whole := field b 0 1, fraction := field b 1 1, burst := field b 2 2, credit := min old.credit (field b 2 2),
          spread := old.spread } := if_pos ⟨fraction, low, high⟩

/-- An attempt is started where a condition holds. -/
def startedIf (starts : Bool) (n : NodePort) (s : State) : State := if starts then startAttempt n s else s

theorem startedIf_frame (starts : Bool) (n : NodePort) (s : State) :
    (startedIf starts n s).meter = s.meter ∧ (startedIf starts n s).link = s.link := by
  unfold startedIf
  split <;> exact ⟨rfl, rfl⟩

theorem startedIf_desk (starts : Bool) (n m : NodePort) (s : State) :
    (startedIf starts n s).desk m =
      if m = n ∧ starts = true then { s.desk n with attemptsDue := (s.desk n).attemptsDue + 1 } else s.desk m := by
  cases starts with
  | false => simp [startedIf]
  | true => simp [startedIf, startAttempt, State.setDesk_desk_eq]

theorem putMeter_of_image {n : NodePort} {m : Meter} (image : meterOfImage b (s.meterOf n) = some m) :
    putMeter n b s = (startedIf (!m.metered && s.headWaits n .credit) n (s.setMeter n m), .ok) := by
  rw [putMeter, image]
  rfl

theorem replied_link_congr {u : State} (link : s.link = u.link) (n : NodePort) (f : NodeFrame) :
    (replied n f s).link = (replied n f u).link := by simp only [replied, State.setNode, State.node, link]

/-- Settles O34, by the ranges of R97 and by whether a head waits for credit that the node no longer needs (R98). -/
theorem meterWritesClampTheCredit : Obligations.MeterWritesClampTheCredit := by
  intro h index b n s managed isIndex length
  have up := heard_up managed
  refine ⟨fun out => ?range, fun fraction low high => ?written⟩
  case range =>
    refine exec_writeEntryMeter managed isIndex length ?_ up
    rw [putMeter, meterOfImage, if_neg (by omega)]
  case written =>
    have put := putMeter_of_image (meterOfImage_of_in_range (b := b) (old := (heard h s).meterOf n) fraction low high)
    rw [heard_meterOf, heard_headWaits] at put
    obtain ⟨m, new⟩ : ∃ m : Meter, m =
      { whole := field b 0 1, fraction := field b 1 1, burst := field b 2 2,
        credit := min (s.meterOf n).credit (field b 2 2), spread := (s.meterOf n).spread } := ⟨_, rfl⟩
    rw [← new] at put ⊢
    obtain ⟨meter, link⟩ := startedIf_frame (!m.metered && s.headWaits n .credit) n ((heard h s).setMeter n m)
    refine ⟨_, exec_writeEntryMeter managed isIndex length put ?_, ?_, fun l other => ?_, ?_, fun l => ?_,
      replied_link_congr link ..⟩
    · rw [State.node, link]
      exact up
    · change (startedIf _ _ _).meter.meters[n.val] = _
      rw [meter]
      exact State.setMeter_meterOf ..
    · change (startedIf _ _ _).meter.meters[l.val] = _
      rw [meter]
      exact (State.setMeter_meterOf_ne _ _ _ _ other).trans (heard_meterOf ..)
    · change (startedIf _ _ _).meter.tallies = _
      rw [meter]
      simp
    · change (startedIf _ _ _).desk l = _
      rw [startedIf_desk, new]
      simp [Meter.metered, and_assoc]

end Writes

end Sys2Proof.Machine
end

section
/-! PROOFS. Bytes: numbers in layouts, most significant byte first (R187), and back. -/

namespace Sys2Proof.Machine

theorem beBytes_one (v : Nat) : beBytes 1 v = [BitVec.ofNat 8 v] := by simp [beBytes]

theorem beBytes_succ (w v : Nat) : beBytes (w + 1) v = BitVec.ofNat 8 (v / 256 ^ w) :: beBytes w v := by
  have : 2 ^ (8 * w) = 256 ^ w := by rw [Nat.pow_mul]
  rw [beBytes, Nat.shiftRight_eq_div_pow, this]

theorem beBytes_zero (w : Nat) : beBytes w 0 = List.replicate w 0 := by
  induction w with
  | zero => rfl
  | succ w ih => rw [beBytes_succ, ih, Nat.zero_div]; rfl

/-- Byte j of a layout of w bytes. -/
theorem beBytes_getElem? {w j : Nat} (v : Nat) (inside : j < w) :
    (beBytes w v)[j]? = some (BitVec.ofNat 8 (v / 256 ^ (w - 1 - j))) := by
  induction w generalizing j with
  | zero => omega
  | succ w ih =>
    rw [beBytes_succ]
    cases j with
    | zero => simp
    | succ j =>
      have index : w + 1 - 1 - (j + 1) = w - 1 - j := by omega
      rw [List.getElem?_cons_succ, ih (by omega), index]

theorem ofBytes_foldl (bs : List Byte) (a : Nat) :
    bs.foldl (fun acc b => acc * 256 + b.toNat) a = a * 256 ^ bs.length + ofBytes bs := by
  induction bs generalizing a with
  | nil => simp [ofBytes]
  | cons b bs ih =>
    rw [ofBytes, List.foldl_cons, List.foldl_cons, ih, ih, List.length_cons, Nat.pow_succ]
    ring

theorem ofBytes_cons (b : Byte) (bs : List Byte) : ofBytes (b :: bs) = b.toNat * 256 ^ bs.length + ofBytes bs := by
  rw [ofBytes, List.foldl_cons, ofBytes_foldl]
  simp

theorem ofBytes_lt (bs : List Byte) : ofBytes bs < 256 ^ bs.length := by
  induction bs with
  | nil => simp [ofBytes]
  | cons b bs ih =>
    have : b.toNat < 256 := b.isLt
    have : (b.toNat + 1) * 256 ^ bs.length ≤ 256 * 256 ^ bs.length := Nat.mul_le_mul_right _ this
    rw [ofBytes_cons, List.length_cons, Nat.pow_succ]
    linarith

theorem ofBytes_beBytes (w v : Nat) : ofBytes (beBytes w v) = v % 256 ^ w := by
  induction w with
  | zero => simp [beBytes, ofBytes, Nat.mod_one]
  | succ w ih =>
    have byte : (BitVec.ofNat 8 (v / 256 ^ w)).toNat = v / 256 ^ w % 256 := rfl
    rw [beBytes_succ, ofBytes_cons, ih, beBytes_length, byte, Nat.pow_succ, Nat.mod_mul, Nat.mul_comm (256 ^ w),
      Nat.add_comm]

/-- The number of a layout's bytes gives the bytes back. -/
theorem beBytes_ofBytes (bs : List Byte) : beBytes bs.length (ofBytes bs) = bs := by
  have same (w a b : Nat) : beBytes w (a * 256 ^ w + b) = beBytes w b := by
    induction w generalizing a with
    | zero => rfl
    | succ w ih =>
      have split : a * 256 ^ (w + 1) + b = (a * 256) * 256 ^ w + b := by rw [Nat.pow_succ]; ring
      rw [beBytes_succ, beBytes_succ, split, ih, Nat.mul_comm (a * 256), Nat.mul_add_div (Nat.pow_pos (by omega))]
      congr 1
      apply BitVec.eq_of_toNat_eq
      simp only [BitVec.toNat_ofNat]
      omega
  induction bs with
  | nil => rfl
  | cons b bs ih =>
    rw [List.length_cons, beBytes_succ, ofBytes_cons, same, ih, Nat.mul_comm, Nat.mul_add_div (Nat.pow_pos (by omega)),
      Nat.div_eq_of_lt (ofBytes_lt bs), Nat.add_zero]
    simp

theorem field_lt (b : List Byte) (off w : Nat) : field b off w < 256 ^ w :=
  (ofBytes_lt _).trans_le (Nat.pow_le_pow_right (by omega) (by simp))

/-- The bytes of a field that lies within a layout. -/
theorem beBytes_field {b : List Byte} {off w : Nat} (inside : off + w ≤ b.length) :
    beBytes w (field b off w) = (b.drop off).take w := by
  have length : ((b.drop off).take w).length = w := by simp; omega
  calc beBytes w (field b off w) = beBytes ((b.drop off).take w).length (ofBytes ((b.drop off).take w)) := by
        rw [length]; rfl
    _ = (b.drop off).take w := beBytes_ofBytes _

end Sys2Proof.Machine
end

section
/-! PROOFS. Links: the frames a link sends and their layouts (R59, R61, 10.1 to 10.5). -/

namespace Sys2Proof.Machine

variable {s : State}

section Sent

variable {n : NodePort} {d : DiskPort}

theorem frameSentOn_node_of_some {f : NodeFrame} (begun : (s.node n).finishing = some f) :
    frameSentOn (.node n) s = s.setNode n { s.node n with finishing := none } := by simp only [frameSentOn, begun]

theorem frameSentOn_node_of_none (none : (s.node n).finishing = none) :
    frameSentOn (.node n) s = s.setNode n { s.node n with out := (s.node n).out.tail } := by
  simp only [frameSentOn, none]

theorem frameSentOn_disk_of_some {f : DiskFrame} (begun : (s.diskLink d).finishing = some f) :
    frameSentOn (.disk d) s = s.setDiskLink d { s.diskLink d with finishing := none } := by
  simp only [frameSentOn, begun]

theorem frameSentOn_disk_of_none (none : (s.diskLink d).finishing = none) :
    frameSentOn (.disk d) s = s.setDiskLink d { s.diskLink d with out := (s.diskLink d).out.tail } := by
  simp only [frameSentOn, none]

/-- What goes over a node link, by what it has begun and what stands on its list (R59, R61). -/
theorem exec_frameSent_node (n : NodePort) (s : State) (f : NodeFrame) (rest : List NodeFrame) :
    ((s.node n).finishing = some f →
      exec (.frameSent (.node n)) s = .next (s.setNode n { s.node n with finishing := none })) ∧
    ((s.node n).finishing = none → (s.node n).out = f :: rest →
      exec (.frameSent (.node n)) s = .next (s.setNode n { s.node n with out := rest })) ∧
    ((s.node n).finishing = none → (s.node n).out = [] → exec (.frameSent (.node n)) s = .next s) := by
  have sent : exec (.frameSent (.node n)) s = .next (frameSentOn (.node n) s) := rfl
  rw [sent]
  refine ⟨fun begun => ?_, fun none out => ?_, fun none out => ?_⟩
  · rw [frameSentOn_node_of_some begun]
  · rw [frameSentOn_node_of_none none, out, List.tail_cons]
  · have same : { s.node n with out := (s.node n).out.tail } = s.node n := by rw [out, List.tail_nil, ← out]
    rw [frameSentOn_node_of_none none, same, setNode_self]

theorem exec_frameSent_disk (d : DiskPort) (s : State) (f : DiskFrame) (rest : List DiskFrame) :
    ((s.diskLink d).finishing = some f →
      exec (.frameSent (.disk d)) s = .next (s.setDiskLink d { s.diskLink d with finishing := none })) ∧
    ((s.diskLink d).finishing = none → (s.diskLink d).out = f :: rest →
      exec (.frameSent (.disk d)) s = .next (s.setDiskLink d { s.diskLink d with out := rest })) ∧
    ((s.diskLink d).finishing = none → (s.diskLink d).out = [] → exec (.frameSent (.disk d)) s = .next s) := by
  have sent : exec (.frameSent (.disk d)) s = .next (frameSentOn (.disk d) s) := rfl
  rw [sent]
  refine ⟨fun begun => ?_, fun none out => ?_, fun none out => ?_⟩
  · rw [frameSentOn_disk_of_some begun]
  · rw [frameSentOn_disk_of_none none, out, List.tail_cons]
  · have same : { s.diskLink d with out := (s.diskLink d).out.tail } = s.diskLink d := by rw [out, List.tail_nil, ← out]
    rw [frameSentOn_disk_of_none none, same, setDiskLink_self]

end Sent

theorem beBytes_three_zero : beBytes 3 0 = [0, 0, 0] := rfl

theorem blockBytes_length (b : Block) : (blockBytes b).length = 4096 := beBytes_length ..

theorem blocks_length (blocks : List Block) : (blocks.map blockBytes).flatten.length = 4096 * blocks.length := by
  induction blocks with
  | nil => rfl
  | cons b blocks ih =>
    rw [List.map_cons, List.flatten_cons, List.length_append, ih, blockBytes_length, List.length_cons]
    omega

theorem flagImageBytes_length (f : FlagImage) : (flagImageBytes f).length = 17 := by simp [flagImageBytes]

/-- Settles O16: the frame sent by what the link holds, for each kind of link; then each layout, field by field. -/
theorem framesLeaveInOrderOfProduction : Obligations.FramesLeaveInOrderOfProduction := by
  refine ⟨exec_frameSent_node, exec_frameSent_disk, fun f g w v => ⟨rfl, rfl, by decide +kernel, beBytes_length w v,
      fun j inside => beBytes_getElem? v inside, rfl, rfl, rfl⟩,
    fun tag granule count first index block status => ⟨?data, ?dataLength, ?done, fun t blocks =>
      ⟨?fetch, ?store, ?storeLength⟩⟩,
    fun v state l tag operation table index status image f detail flags => ⟨?loan, ?noLoan, ?reply, ?notice, ?noticeLength⟩,
    fun n d => ⟨by decide, by decide, by decide, rfl⟩⟩
  case data => simp only [NodeFrame.body, beBytes_one 0x31]; rfl
  case dataLength => simp only [NodeFrame.body, List.length_append, beBytes_length, blockBytes_length]
  case done => simp only [NodeFrame.body, beBytes_one]; rfl
  case fetch => simp only [DiskFrame.body, beBytes_one]; rfl
  case store => simp only [DiskFrame.body, beBytes_one]; rfl
  case storeLength =>
    simp only [DiskFrame.body, List.length_append, beBytes_length, blocks_length]
  case loan =>
    obtain ⟨i, mode, term, age⟩ := l
    simp only [NodeFrame.body, loanNoticeBody, loanNoticeTail, beBytes_one]
    cases mode <;> rfl
  case noLoan => simp only [NodeFrame.body, loanNoticeBody, loanNoticeTail, beBytes_one]; rfl
  case reply => simp [NodeFrame.body, beBytes_one]
  case notice => simp only [NodeFrame.body, noticeBody, beBytes_one]; rfl
  case noticeLength =>
    simp only [NodeFrame.body, noticeBody, List.length_append, beBytes_length, flagImageBytes_length]

end Sys2Proof.Machine
end

section
/-! PROOFS. Management: the entry images of the tables (10.6, R174, R190). -/

namespace Sys2Proof.Machine

/-! ## Entries of a table listed -/

theorem toList_eq_map_finRange {α : Type} {n : Nat} (v : Vector α n) :
    v.toList = (List.finRange n).map fun i => v[i.val] := by
  apply List.ext_getElem <;> simp

theorem toList_four {α : Type} (v : Vector α 4) : v.toList = [v[0], v[1], v[2], v[3]] := by
  rw [toList_eq_map_finRange]
  rfl

theorem flatten_length_of_all {α : Type} {f : α → List Byte} {w : Nat} (width : ∀ a, (f a).length = w) (l : List α) :
    (l.map f).flatten.length = w * l.length := by
  induction l with
  | nil => rfl
  | cons a l ih =>
    rw [List.map_cons, List.flatten_cons, List.length_append, width, ih, List.length_cons]
    ring

/-! ## Images -/

theorem settingsImage_eq (s : State) : (settingsImage s).length = 24 ∧ settingsImage s =
    ([0x1C, 0x5E, 0x32, 0x16, 0x01] : List Byte) ++ ([if s.settings.scale = .normal then 0 else 1] : List Byte) ++
      beBytes 1 s.settings.portReload ++ beBytes 1 s.settings.meterReload ++ beBytes 2 s.settings.lendingReload ++
      beBytes 1 s.settings.silenceLimit ++ beBytes 1 s.settings.holdLimit ++ beBytes 1 s.settings.lockoutLimit ++
      beBytes 1 s.settings.lockoutTime ++ beBytes 1 s.settings.tallyPeriod ++ beBytes 1 s.settings.responseTimeout ++
      beBytes 1 s.settings.retryTimeout ++ ([if s.settings.timeoutsDisabled then 1 else 0] : List Byte) ++
      beBytes 2 s.poolFree ++ beBytes 2 s.freeStages ++ ([0, 0] : List Byte) := by
  have scale : beBytes 1 s.settings.scale.code = [if s.settings.scale = .normal then 0 else 1] := by
    cases s.settings.scale <;> rfl
  refine ⟨by simp [settingsImage], ?_⟩
  rw [← scale]
  rfl

theorem portImage_eq (r : NodeLink) : (portImage r).length = 8 ∧ portImage r =
    ([if r.state = .down then 0 else 1, if r.manager then 1 else 0] : List Byte) ++ beBytes 1 r.ceiling.val ++
      ([0] : List Byte) ++ beBytes 1 r.silence ++ ([0] : List Byte) ++ beBytes 2 r.damaged := by
  refine ⟨by simp [portImage], ?_⟩
  unfold portImage
  cases r.state <;> rfl

theorem diskImage_eq (s : State) (d : DiskPort) : (diskImage s d).length = 20 ∧ diskImage s d =
    ([if (s.disk d).state = .absent then 0 else 1, if (s.disk d).held then 1 else 0] : List Byte) ++
      beBytes 1 (s.disk d).depth ++
      beBytes 1 (s.outstanding d) ++ beBytes 4 (s.disk d).capacity ++ beBytes 2 (s.disk d).lanes[0].length ++
      beBytes 2 (s.disk d).lanes[1].length ++ beBytes 2 (s.disk d).lanes[2].length ++
      beBytes 2 (s.disk d).lanes[3].length ++ ([if (s.diskLink d).state = .down then 0 else 1] : List Byte) ++
      beBytes 1 (s.diskLink d).silence ++ beBytes 2 (s.diskLink d).damaged := by
  unfold diskImage
  simp only [toList_four, List.map_cons, List.map_nil, List.flatten_cons, List.flatten_nil]
  refine ⟨by simp, ?_⟩
  cases (s.disk d).state <;> cases (s.diskLink d).state <;> simp [DiskState.code, PortState.code, beBytes_one, boolByte]

theorem volumeImage_eq (v : VolumeEntry) : (volumeImage v).length = 8 ∧ volumeImage v =
    ([match v.state with | .online => 0 | .frozen => 1 | .offline => 2,
      if v.lockoutEnable then 1 else 0] : List Byte) ++
      beBytes 2 v.first.val ++ beBytes 2 v.extents ++ beBytes 2 v.inFlight := by
  refine ⟨by simp [volumeImage], ?_⟩
  unfold volumeImage
  cases v.state <;> rfl

theorem mapImage_eq (e : MapEntry) : (mapImage e).length = 28 ∧ mapImage e =
    ([if e.stored.valid then 1 else 0] : List Byte) ++ beBytes 1 e.stored.volume.val ++ beBytes 1 e.stored.unit ++
      beBytes 1 e.stored.width ++ beBytes 4 e.stored.base ++ beBytes 4 e.stored.length ++
      beBytes 4 e.stored.diskBase ++ e.stored.disks.toList ++
      ([match e.outcome with | .clean => 0 | .corrected => 1 | .uncorrectable => 2, 0, 0, 0] : List Byte) := by
  refine ⟨by simp [mapImage], ?_⟩
  unfold mapImage
  rw [List.append_assoc _ (beBytes 1 _)]
  cases e.outcome <;> rfl

theorem loanImage_eq (l : Loan) : (loanImage l).length = 8 ∧ loanImage l =
    ([match l.state with | .free => 0 | .active => 1 | .due => 2 | .lapsed => 3 | .recalled => 4] : List Byte) ++
      beBytes 1 l.volume.val ++ beBytes 1 l.node.val ++
      ([match l.mode with | .read => 0 | .write => 1 | .sharedUpdate => 2] : List Byte) ++ beBytes 2 l.term ++
      beBytes 2 l.age := by
  refine ⟨by simp [loanImage], ?_⟩
  unfold loanImage
  cases l.mode <;> cases l.state <;> rfl

theorem waiterImage_length (w : Waiter) : (waiterImage w).length = 12 := by simp [waiterImage]

theorem stageImage_head (st : Stage) :
    beBytes 1 st.state.code ++ [boolByte st.abandoned] ++ beBytes 1 st.kind.code =
      [match st.state with
        | .free => 0 | .queued => 1 | .sent => 2 | .accepted => 3 | .streaming => 4 | .retrying => 5,
        if st.abandoned then 1 else 0, if st.kind = .fetch then 0 else 1] := by
  cases st.state <;> cases st.kind <;> rfl

theorem ownerImage_eq (owner : Option Owner) :
    ownerImage owner =
      match owner with
      | some o => ([1] : List Byte) ++ beBytes 1 o.node.val ++ beBytes 1 o.slot.val
      | none => ([0, 0, 0] : List Byte) := by
  cases owner <;> rfl

theorem stageImage_eq (s : State) (i : StageIdx) (most : (s.stage i).waiters.length ≤ 8) :
    (stageImage s i).length = 120 ∧ stageImage s i =
    ([match (s.stage i).state with
      | .free => 0 | .queued => 1 | .sent => 2 | .accepted => 3 | .streaming => 4 | .retrying => 5,
      if (s.stage i).abandoned then 1 else 0, if (s.stage i).kind = .fetch then 0 else 1] : List Byte) ++
      beBytes 1 (s.stage i).disk.val ++ beBytes 4 (s.stage i).granule ++ beBytes 1 (s.stage i).generation ++
      beBytes 1 (s.stage i).cls.val ++ beBytes 2 (s.stage i).tag ++ beBytes 1 (s.stage i).lead ++
      beBytes 1 (s.stage i).first ++ beBytes 1 (s.stage i).count ++ beBytes 1 (s.stage i).arrived ++
      ([if s.isChainHead i then 1 else 0] : List Byte) ++ beBytes 1 (s.stage i).sendAge ++
      beBytes 1 (s.stage i).acceptAge ++
      (match (s.stage i).owner with
        | some o => ([1] : List Byte) ++ beBytes 1 o.node.val ++ beBytes 1 o.slot.val
        | none => ([0, 0, 0] : List Byte)) ++
      beBytes 1 (s.stage i).waiters.length ++ ([0] : List Byte) ++
      ((s.stage i).waiters.map fun w =>
        beBytes 1 w.node.val ++ beBytes 1 w.slot.val ++ beBytes 1 w.first ++ beBytes 1 w.count ++
          beBytes 1 w.delivered ++ ([0, 0, 0] : List Byte) ++ beBytes 4 w.granule).flatten ++
      List.replicate (12 * (8 - (s.stage i).waiters.length)) 0 := by
  have owner : (ownerImage (s.stage i).owner).length = 3 := by
    cases (s.stage i).owner <;> simp [ownerImage]
  constructor
  · have waiters := flatten_length_of_all waiterImage_length (s.stage i).waiters
    unfold stageImage
    generalize s.isChainHead i = head
    generalize s.stage i = st at *
    dsimp only
    simp only [List.length_append, beBytes_length, waiters, owner, List.length_singleton]
    omega
  · unfold stageImage
    rw [← beBytes_zero]
    dsimp only
    rw [stageImage_head, ownerImage_eq]
    rfl

theorem lockImage_eq (l : Lock) : (lockImage l).length = 12 ∧ lockImage l =
    ([if l.state = .free then 0 else 1] : List Byte) ++ beBytes 1 l.volume.val ++ beBytes 1 l.holder.val ++
      ([0] : List Byte) ++ beBytes 4 l.granule ++ beBytes 1 l.age ++ ([0, 0, 0] : List Byte) := by
  refine ⟨by simp [lockImage], ?_⟩
  unfold lockImage
  cases l.state <;> rfl

theorem claimImage_length (c : Claim) : (claimImage c).length = 8 := by simp [claimImage]

theorem lockoutImage_eq (s : State) (most : s.lock.pendingClaims.length ≤ 4) :
    (lockoutImage s).length = 76 ∧ lockoutImage s =
    (match s.lock.active with
      | some a =>
        ([1] : List Byte) ++ beBytes 1 a.claim.node.val ++ beBytes 1 a.claim.volume.val ++ beBytes 1 a.timer ++
          beBytes 4 a.claim.granule
      | none => ([0, 0, 0, 0, 0, 0, 0, 0] : List Byte)) ++
      beBytes 1 s.lock.pendingClaims.length ++ ([0, 0, 0] : List Byte) ++
      (s.lock.pendingClaims.map fun c =>
        beBytes 1 c.node.val ++ beBytes 1 c.volume.val ++ ([0, 0] : List Byte) ++ beBytes 4 c.granule).flatten ++
      List.replicate (8 * (4 - s.lock.pendingClaims.length)) 0 ++
      ((List.finRange 32).map fun n => beBytes 1 (s.retryCount n)).flatten := by
  have active : (activeImage s.lock.active).length = 8 := by
    cases s.lock.active <;> simp [activeImage]
  constructor
  · simp only [lockoutImage, List.length_append, beBytes_length, flatten_length_of_all claimImage_length, active,
      flatten_length_of_all (f := fun c : Nat => beBytes 1 c) (beBytes_length 1), Vector.length_toList]
    omega
  · unfold lockoutImage
    rw [← beBytes_zero, toList_eq_map_finRange, List.map_map]
    cases s.lock.active <;> rfl

theorem requestImage_eq (x : Slot) : (requestImage x).length = 16 ∧ requestImage x =
    ([match x.state with | .free => 0 | .waiting => 1 | .admitted => 2,
      match x.kind with | .read => 0 | .write => 1 | .lockread => 2 | .unlockwrite => 3] : List Byte) ++
      beBytes 1 x.volume.val ++ beBytes 1 x.cls.val ++ beBytes 2 x.tag.toNat ++ beBytes 1 x.length ++
      ([match x.waitFor with | .none => 0 | .credit => 1 | .stages => 2] : List Byte) ++ beBytes 4 x.offset ++
      beBytes 1 x.outstanding ++ beBytes 1 x.delivered ++ beBytes 1 x.held ++ ([0] : List Byte) := by
  refine ⟨by simp [requestImage], ?_⟩
  unfold requestImage
  cases x.state <;> cases x.kind <;> cases x.waitFor <;> rfl

/-- Bit f of a flag image stands in byte f div 8 at f mod 8 (10.3). -/
theorem flagImageBytes_bit (flags : FlagImage) (f : Flag) :
    ((flagImageBytes flags)[f.number / 8]?).map (·.getLsbD (f.number % 8)) = some (flags.getLsbD f.number) := by
  have inside := f.number_lt
  have byte : f.number / 8 < 17 := by omega
  have bit : f.number % 8 < 8 := by omega
  rw [flagImageBytes, List.getElem?_map, List.getElem?_range byte]
  simp only [Option.map_some, BitVec.getLsbD_ofNat, bit, decide_true, Bool.true_and, Nat.testBit_shiftRight,
    Nat.div_add_mod, BitVec.testBit_toNat]

theorem noticeImage_eq (m : ManagementBlock) : (noticeImage m).length = 42 ∧ noticeImage m =
    flagImageBytes m.flags ++ beBytes 2 m.loanLapseDetail ++ beBytes 2 m.mapCorrectedDetail ++
      beBytes 2 m.mapFaultDetail ++ beBytes 2 m.mapLossDetail ++ flagImageBytes m.masks ∧
    (flagImageBytes m.flags).length = 17 ∧
    ∀ f : Flag, ((flagImageBytes m.flags)[f.number / 8]?).map (·.getLsbD (f.number % 8)) =
      some (m.flags.getLsbD f.number) :=
  ⟨by simp [noticeImage, flagImageBytes_length], rfl, flagImageBytes_length _, flagImageBytes_bit _⟩

/-- Entry n × 16 + k of the REQUEST table is slot k of node n (4.1). -/
theorem requestEntry_eq {i : Fin 512} {n : NodePort} {k : SlotIdx} (isIndex : i.val = n.val * 16 + k.val) (s : State) :
    requestEntry i s = s.slot n k := by
  have node : (⟨i.val / 16, by omega⟩ : NodePort) = n := Fin.ext (by simp only [isIndex]; omega)
  have slot : (⟨i.val % 16, by omega⟩ : SlotIdx) = k := Fin.ext (by simp only [isIndex]; omega)
  rw [requestEntry, node, slot]

/-- Settles O52: every plain read by its index, then the layout of each image (R174, R190). -/
theorem readsReturnTheEntryAsItStands : Obligations.ReadsReturnTheEntryAsItStands := by
  refine ⟨fun h s managed => ?reads, settingsImage_eq, portImage_eq, diskImage_eq, volumeImage_eq, mapImage_eq,
    loanImage_eq, fun m => ⟨?meterLength, ?meter⟩, stageImage_eq, lockImage_eq, lockoutImage_eq, requestImage_eq,
    noticeImage_eq⟩
  case reads =>
    have read {size} {index : BitVec 16} {i : Fin size} (f : Fin size → State → List Byte) (table : Table)
        (isIndex : index.toNat = i.val) :
        (Host.Outcome.next (readEntry h table index size (plainRead f) s) : Result) =
          .next (replied h.port (.manageReply h.tag 1 .ok table.code index (f i (heard h s))) (heard h s)) :=
      congrArg _ (plainRead_of_index managed isIndex f table)
    have request {index : BitVec 16} {n : NodePort} {k : SlotIdx} (isIndex : index.toNat = n.val * 16 + k.val) :
        exec (.readEntryRequest h index) s = .next (replied h.port
          (.manageReply h.tag 1 .ok 12 index (requestImage ((heard h s).slot n k))) (heard h s)) := by
      rw [← requestEntry_eq (i := ⟨n.val * 16 + k.val, by omega⟩) rfl]
      exact read (fun i s => requestImage (requestEntry i s)) .request isIndex
    exact ⟨read (i := (0 : Fin 1)) _ .settings rfl, fun _ _ => read _ .port, fun _ _ => read _ .disk,
      fun _ _ => read _ .volume, fun _ _ => read _ .loan, fun _ _ => read _ .classmap, fun _ _ => read _ .meter,
      fun _ _ => read _ .stage, fun _ _ => read _ .lock, read (i := (0 : Fin 1)) _ .lockout rfl, fun _ _ _ => request,
      read (i := (0 : Fin 1)) _ .notice rfl⟩
  case meterLength => simp [meterImage]
  case meter => rfl

end Sys2Proof.Machine
end

section
/-! PROOFS. Lending: map entries that R7 accepts (1.2), their striping (1.5), and the images that write them. -/

namespace Sys2Proof.Machine

/-! ## What R7 accepts -/

/-- The conditions of R7, one by one. -/
structure Extent.Accepted (e : Extent) : Prop where
  unit : e.unit = 1 ∨ e.unit = 2 ∨ e.unit = 4 ∨ e.unit = 8 ∨ e.unit = 16
  narrow : 1 ≤ e.width
  wide : e.width ≤ 8
  ports : ∀ j : Fin 8, j.val < e.width → e.disks[j.val].toNat ≤ 15
  distinct : ∀ i j : Fin 8, i < j → j.val < e.width → e.disks[i.val] ≠ e.disks[j.val]
  short : 1 ≤ e.length
  long : e.length ≤ 2 ^ 24
  base : e.base < 2 ^ 29
  diskBase : e.diskBase < 2 ^ 29
  range : e.base + e.length ≤ 2 ^ 29
  span : e.diskBase + e.diskSpan ≤ 2 ^ 29

theorem Extent.mem_usedDisks {e : Extent} (wide : e.width ≤ 8) {b : Byte} :
    b ∈ e.usedDisks ↔ ∃ j : Fin 8, j.val < e.width ∧ e.disks[j.val] = b := by
  simp only [usedDisks, List.mem_take_iff_getElem, Vector.length_toList, Vector.getElem_toList]
  constructor
  · rintro ⟨j, inside, rfl⟩
    exact ⟨⟨j, by omega⟩, by simp only; omega, rfl⟩
  · rintro ⟨j, inside, rfl⟩
    exact ⟨j.val, by omega, rfl⟩

theorem Extent.usedDisks_nodup {e : Extent} (wide : e.width ≤ 8) :
    e.usedDisks.Nodup ↔ ∀ i j : Fin 8, i < j → j.val < e.width → e.disks[i.val] ≠ e.disks[j.val] := by
  simp only [usedDisks, List.Nodup, List.pairwise_iff_getElem, List.length_take, Vector.length_toList, List.getElem_take,
    Vector.getElem_toList]
  constructor
  · intro h i j lt inside
    exact h i.val j.val (by omega) (by omega) lt
  · intro h i j hi hj lt
    exact h ⟨i, by omega⟩ ⟨j, by omega⟩ lt (by simp only; omega)

theorem Extent.acceptable_iff {e : Extent} : e.acceptable = true ↔ e.Accepted := by
  simp only [acceptable, Bool.and_eq_true, Bool.or_eq_true, beq_iff_eq, decide_eq_true_eq, List.all_eq_true, and_assoc,
    or_assoc]
  constructor
  · rintro ⟨unit, narrow, wide, ports, distinct, short, long, base, diskBase, range, span⟩
    exact ⟨unit, narrow, wide, fun j inside => ports _ ((mem_usedDisks wide).mpr ⟨j, inside, rfl⟩),
      (usedDisks_nodup wide).mp distinct, short, long, base, diskBase, range, span⟩
  · rintro ⟨unit, narrow, wide, ports, distinct, short, long, base, diskBase, range, span⟩
    refine ⟨unit, narrow, wide, fun b used => ?_, (usedDisks_nodup wide).mpr distinct, short, long, base, diskBase,
      range, span⟩
    obtain ⟨j, inside, rfl⟩ := (mem_usedDisks wide).mp used
    exact ports j inside

/-- A row of whole stripes and a unit inside its row stay below the rounded-up number of rows (R15). -/
theorem row_add_within_lt {r length unit width : Nat} (inside : r < length) (posUnit : 0 < unit) (posWidth : 0 < width) :
    r / (unit * width) * unit + r % unit < (length + unit * width - 1) / (unit * width) * unit := by
  have stripe : 0 < unit * width := Nat.mul_pos posUnit posWidth
  have within : r % unit < unit := Nat.mod_lt _ posUnit
  have rows : r / (unit * width) + 1 ≤ (length + unit * width - 1) / (unit * width) := by
    rw [Nat.le_div_iff_mul_le stripe, Nat.add_mul, Nat.one_mul]
    have := Nat.div_mul_le_self r (unit * width)
    omega
  have := Nat.mul_le_mul_right unit rows
  rw [Nat.add_mul, Nat.one_mul] at this
  omega

/-- Settles O28, from the conditions of R7: the column lies in the list of used disks, the row in the span (R15). -/
theorem stripesStayInTheExtent : Obligations.StripesStayInTheExtent := by
  intro e v g acceptable covers
  have ok := Extent.acceptable_iff.mp acceptable
  have inside : g - e.base < e.length := by
    simp only [Extent.covers, Bool.and_eq_true, decide_eq_true_eq] at covers
    have := covers.2
    have := covers.1.2
    omega
  have posUnit : 0 < e.unit := by have := ok.unit; omega
  have column : e.column g < e.width := Nat.mod_lt _ ok.narrow
  have slot : e.column g % 8 = e.column g := Nat.mod_eq_of_lt (column.trans_le ok.wide)
  have row := row_add_within_lt inside posUnit ok.narrow
  have span := ok.span
  have placed : e.diskGranuleOf g < e.diskBase + e.diskSpan := by
    unfold Extent.diskGranuleOf Extent.diskSpan
    omega
  refine ⟨rfl, column, ?_, rfl, placed, by omega⟩
  have port := ok.ports ⟨e.column g, column.trans_le ok.wide⟩ column
  simp only at port
  have listed : e.disks.toList[e.column g]? = some (e.disks[e.column g]'(column.trans_le ok.wide)) := by
    simp [column.trans_le ok.wide]
  rw [listed, Option.map_some, Extent.diskOf]
  simp only [slot, Fin.val_ofNat]
  rw [Nat.mod_eq_of_lt (by omega)]

/-! ## Map images -/

/-- The map fields that an image carries, whether R7 refuses them or not (10.6). -/
def extentFields (b : List Byte) : Extent :=
  { valid := decide (field b 0 1 = 1), volume := Fin.ofNat 256 (field b 1 1), unit := field b 2 1,
    width := field b 3 1, base := field b 4 4, length := field b 8 4, diskBase := field b 12 4,
    disks := Vector.ofFn fun j => BitVec.ofNat 8 (field b (16 + j.val) 1) }

theorem extentOfImage_eq (b : List Byte) :
    extentOfImage b =
      if field b 0 1 ≤ 1 ∧ (extentFields b).acceptable = true then some (extentFields b) else none := by
  unfold extentOfImage
  rw [boolField_eq]
  by_cases bool : field b 0 1 ≤ 1
  · simp only [bool, if_true, true_and, extentFields]
  · simp only [bool, if_false, false_and]

theorem field_one_lt (b : List Byte) (off : Nat) : field b off 1 < 256 := field_lt b off 1

/-- An image is refused by the conditions over its bytes exactly where its fields are not accepted. -/
theorem extentOfImage_eq_none_iff (b : List Byte) : extentOfImage b = none ↔ MapImageRefused b := by
  have byte (j : Nat) : (BitVec.ofNat 8 (field b j 1)).toNat = field b j 1 := Nat.mod_eq_of_lt (field_one_lt b j)
  rw [extentOfImage_eq, ite_eq_right_iff]
  simp only [reduceCtorEq, imp_false, Extent.acceptable_iff]
  constructor
  · intro refused
    by_contra kept
    simp only [MapImageRefused, not_or, not_not, not_exists, not_and, Nat.not_lt] at kept
    obtain ⟨unit, narrow, wide, ports, distinct, short, long, range, span, bool, base, diskBase⟩ := kept
    have unit : field b 2 1 = 1 ∨ field b 2 1 = 2 ∨ field b 2 1 = 4 ∨ field b 2 1 = 8 ∨ field b 2 1 = 16 := by omega
    refine refused ⟨bool, unit, Nat.one_le_iff_ne_zero.mpr narrow, wide, fun j inside => ?_, fun i j lt inside same => ?_,
      Nat.one_le_iff_ne_zero.mpr short, long, ?_, ?_, range, span⟩
    · simpa [extentFields, byte] using ports j.val inside
    · have same := congrArg BitVec.toNat same
      simp only [extentFields, Vector.getElem_ofFn, byte] at same
      exact distinct i.val j.val lt inside same
    · change field b 4 4 < 2 ^ 29
      omega
    · change field b 12 4 < 2 ^ 29
      omega
  · rintro refused ⟨bool, unit, narrow, wide, ports, distinct, short, long, base, diskBase, range, span⟩
    simp only [extentFields, Extent.diskSpan, Vector.getElem_ofFn, byte] at *
    rcases refused with h | h | h | ⟨j, inside, h⟩ | ⟨i, j, lt, inside, same⟩ | h | h | h | h | h | h | h
    · exact h unit
    · omega
    · omega
    · have := ports ⟨j, by omega⟩ inside
      simp only at this
      omega
    · refine distinct ⟨i, by omega⟩ ⟨j, by omega⟩ lt inside ?_
      simp only [same]
    all_goals omega

/-- A byte of a layout stands for itself. -/
theorem field_one {b : List Byte} {off : Nat} (inside : off < b.length) : BitVec.ofNat 8 (field b off 1) = b[off] := by
  have bytes := beBytes_field (b := b) (off := off) (w := 1) (by omega)
  rw [beBytes_one, List.take_one_drop_eq_of_lt_length inside] at bytes
  exact List.singleton_inj.mp bytes

/-- The 24 bytes of fields that a read of the written entry gives back are the written ones (R190). -/
theorem mapImage_extentFields {b : List Byte} (length : b.length = 28) (bool : field b 0 1 ≤ 1) (c : Condition)
    (o : CheckOutcome) :
    (mapImage { stored := extentFields b, condition := c, outcome := o }).take 24 = b.take 24 := by
  have valid : boolByte (extentFields b).valid = b[0] := by
    rw [← field_one]
    simp only [extentFields, boolByte]
    obtain zero | one : field b 0 1 = 0 ∨ field b 0 1 = 1 := by omega
    · simp [zero]
    · simp [one]
  have volume : (extentFields b).volume.val = field b 1 1 := Nat.mod_eq_of_lt (field_one_lt b 1)
  have disks : (extentFields b).disks.toList = (b.drop 16).take 8 := by
    apply List.ext_getElem
    · simp [length]
    · intro j h1 h2
      simp only [extentFields, Vector.getElem_toList, Vector.getElem_ofFn, List.getElem_take, List.getElem_drop]
      exact field_one _
  have slices : b.take 24 = [b[0]] ++ (b.drop 1).take 1 ++ (b.drop 2).take 1 ++ (b.drop 3).take 1 ++ (b.drop 4).take 4 ++
      (b.drop 8).take 4 ++ (b.drop 12).take 4 ++ (b.drop 16).take 8 := by
    have first : [b[0]] = b.take 1 := (List.take_one_drop_eq_of_lt_length (n := 0) (by omega)).symm
    rw [first]
    simp only [← List.take_add]
  simp only [mapImage, valid, volume, disks]
  rw [slices, ← beBytes_field (b := b) (off := 1) (w := 1) (by omega), ← beBytes_field (b := b) (off := 2) (by omega),
    ← beBytes_field (b := b) (off := 3) (by omega), ← beBytes_field (b := b) (off := 4) (by omega),
    ← beBytes_field (b := b) (off := 8) (by omega), ← beBytes_field (b := b) (off := 12) (by omega)]
  rw [List.append_assoc, List.take_left' (by simp [length])]
  rfl

theorem putMap_of_some {b : List Byte} {e : Extent} (image : extentOfImage b = some e) (i : MapIdx) (s : State) :
    putMap i b s = (s.setMapEntry i { stored := e, condition := .intact, outcome := .clean }, .ok) := by
  rw [putMap, image]

theorem putMap_of_none {b : List Byte} (image : extentOfImage b = none) (i : MapIdx) (s : State) :
    putMap i b s = (s, .badValue) := by
  rw [putMap, image]

section MapWrites

variable {h : ManageHeader} {s : State} {index : BitVec 16} {b : List Byte} {i : MapIdx}

theorem exec_writeEntryMap_of_some (managed : s.managedBy h) (isIndex : index.toNat = i.val) (length : b.length = 28)
    {e : Extent} (image : extentOfImage b = some e) :
    exec (.writeEntryMap h index b) s = .next (replied h.port (.manageReply h.tag 2 .ok 4 index [])
      ((heard h s).setMapEntry i { stored := e, condition := .intact, outcome := .clean })) :=
  congrArg Host.Outcome.next
    (writeEntry_of_index managed isIndex length (putMap_of_some image i _) (heard_up managed) .map)

theorem exec_writeEntryMap_of_none (managed : s.managedBy h) (isIndex : index.toNat = i.val) (length : b.length = 28)
    (image : extentOfImage b = none) :
    exec (.writeEntryMap h index b) s =
      .next (replied h.port (.manageReply h.tag 2 .badValue 4 index []) (heard h s)) :=
  congrArg Host.Outcome.next
    (writeEntry_of_index managed isIndex length (putMap_of_none image i _) (heard_up managed) .map)

theorem extentOfImage_eq_some {e : Extent} (image : extentOfImage b = some e) :
    e = extentFields b ∧ e.acceptable = true ∧ field b 0 1 ≤ 1 := by
  rw [extentOfImage_eq] at image
  split at image
  · next kept =>
    cases image
    exact ⟨rfl, kept.2, kept.1⟩
  · cases image

end MapWrites

/-- Settles O55, by whether the image is decoded; that is whether a condition of R7 is met (R7, R8, R190). -/
theorem mapWritesStoreEveryByte : Obligations.MapWritesStoreEveryByte := by
  refine ⟨fun h index b i s managed isIndex length => ⟨fun e image => ?_, fun image => ?_⟩,
    fun h index b i s managed isIndex length => ⟨fun refused => ?_, fun kept => ?_⟩⟩
  · obtain ⟨rfl, acceptable, bool⟩ := extentOfImage_eq_some image
    refine ⟨acceptable, _, exec_writeEntryMap_of_some managed isIndex length image, rfl, ?_⟩
    change (mapImage (State.mapEntry (State.setMapEntry _ i _) i)).take 24 = _
    rw [State.setMapEntry_mapEntry, mapImage_extentFields length bool]
  · exact exec_writeEntryMap_of_none managed isIndex length image
  · exact exec_writeEntryMap_of_none managed isIndex length ((extentOfImage_eq_none_iff b).mpr refused)
  · obtain ⟨e, image⟩ := Option.ne_none_iff_exists'.mp (mt (extentOfImage_eq_none_iff b).mp kept)
    obtain ⟨rfl, _, bool⟩ := extentOfImage_eq_some image
    have entry : State.mapEntry (replied h.port (.manageReply h.tag 2 .ok 4 index [])
        ((heard h s).setMapEntry i { stored := extentFields b, condition := .intact, outcome := .clean })) i =
        { stored := extentFields b, condition := .intact, outcome := .clean } := State.setMapEntry_mapEntry ..
    refine ⟨_, exec_writeEntryMap_of_some managed isIndex length image, ?_, ?_, ?_, ?_⟩ <;> rw [entry]
    exact mapImage_extentFields length bool ..

end Sys2Proof.Machine
end

section
/-! PROOFS. Meters and tallies (05). First what a fold over different records leaves of each. -/

namespace Sys2Proof.Machine

/-! ## Folds that act on one record at a time -/

theorem nodePorts_nodup : nodePorts.Nodup := List.nodup_finRange 32

theorem diskPorts_nodup : diskPorts.Nodup := List.nodup_finRange 16

theorem slotIdxs_nodup : slotIdxs.Nodup := List.nodup_finRange 16

@[simp] theorem mem_nodePorts (n : NodePort) : n ∈ nodePorts := List.mem_finRange n

@[simp] theorem mem_diskPorts (d : DiskPort) : d ∈ diskPorts := List.mem_finRange d

@[simp] theorem mem_slotIdxs (k : SlotIdx) : k ∈ slotIdxs := List.mem_finRange k

/-- A fold of steps of which each reads and writes the view of one index alone leaves of each view what its own step
makes of it. -/
theorem foldl_local {ι σ ρ : Type} {view : σ → ι → ρ} {f : σ → ι → σ} [DecidableEq ι]
    (other : ∀ s i j, j ≠ i → view (f s i) j = view s j)
    (congr : ∀ s t i, view s i = view t i → view (f s i) i = view (f t i) i) {l : List ι} (once : l.Nodup) (s : σ) (j : ι) :
    view (l.foldl f s) j = if j ∈ l then view (f s j) j else view s j := by
  induction l generalizing s with
  | nil => rfl
  | cons i l ih =>
    obtain ⟨notIn, once⟩ := List.nodup_cons.mp once
    rw [List.foldl_cons, ih once]
    by_cases h : j = i
    · subst h; simp [notIn]
    · have := congr (f s i) s j (other s i j h)
      simp [h, this, other s i j h]

/-- A fold of steps that keep everything but some parts keeps everything but them. -/
theorem foldl_frame {ι σ : Type} {R : σ → σ → Prop} (refl : ∀ s, R s s) (trans : ∀ s t u, R s t → R t u → R s u)
    {f : σ → ι → σ} (step : ∀ s i, R s (f s i)) (l : List ι) (s : σ) : R s (l.foldl f s) := by
  induction l generalizing s with
  | nil => exact refl s
  | cons i l ih => exact trans _ _ _ (step s i) (ih _)

variable {s : State}

/-! ## Refills (R91, R92, R94) -/

theorem State.headOf_congr {t : State} {n : NodePort} (same : s.desk n = t.desk n) : s.headOf n = t.headOf n := by
  rw [State.headOf, State.headOf, same]

theorem State.headWaits_congr {t : State} {n : NodePort} (same : s.desk n = t.desk n) (w : WaitFor) :
    s.headWaits n w = t.headWaits n w := by
  rw [State.headWaits, State.headWaits, State.headOf_congr same]
  cases t.headOf n with
  | none => rfl
  | some k => simp only [State.slot, same]

theorem State.headLength_congr {t : State} {n : NodePort} (same : s.desk n = t.desk n) :
    s.headLength n = t.headLength n := by
  rw [State.headLength, State.headLength, State.headOf_congr same]
  cases t.headOf n with
  | none => rfl
  | some k => simp only [State.slot, same]

/-- What a refill leaves of a meter. -/
def Meter.afterExpiry (m : Meter) : Meter := if m.metered then m.refill else m

/-- The head of the node's wait list is started by a refill (R94). -/
def State.refillStarts (s : State) (n : NodePort) : Bool :=
  (s.meterOf n).metered && s.headWaits n .credit && decide (s.headLength n ≤ (s.meterOf n).refill.credit)

theorem refillNode_eq (n : NodePort) (s : State) :
    refillNode n s = startedIf (s.refillStarts n) n (s.setMeter n (s.meterOf n).afterExpiry) := by
  have same : s.setMeter n (s.meterOf n) = s := by simp [State.setMeter, State.meterOf]
  have waits : (s.setMeter n (s.meterOf n).refill).headWaits n .credit = s.headWaits n .credit := rfl
  have length : (s.setMeter n (s.meterOf n).refill).headLength n = s.headLength n := rfl
  unfold refillNode State.refillStarts Meter.afterExpiry
  cases metered : (s.meterOf n).metered
  · simp only [Bool.false_eq_true, if_false, Bool.false_and, startedIf, same]
  · simp only [if_true, waits, length, State.setMeter_meterOf, Bool.true_and, startedIf]

theorem refillNode_meterOf (n m : NodePort) (s : State) :
    (refillNode n s).meterOf m = if m = n then (s.meterOf n).afterExpiry else s.meterOf m := by
  rw [refillNode_eq, State.meterOf, (startedIf_frame ..).1]
  exact State.setMeter_meterOf_eq ..

theorem refillNode_desk (n m : NodePort) (s : State) :
    (refillNode n s).desk m =
      if m = n then
        { s.desk n with attemptsDue := (s.desk n).attemptsDue + (if s.refillStarts n = true then 1 else 0) }
      else s.desk m := by
  rw [refillNode_eq, startedIf_desk]
  by_cases same : m = n
  · subst same
    cases s.refillStarts m <;> simp
  · simp [same]

/-- What is left of a node's meter and desk by a meter clock expiry. -/
theorem refillNodes_view {l : List NodePort} (once : l.Nodup) (s : State) (n : NodePort) :
    ((l.foldl (fun s n => refillNode n s) s).meterOf n, (l.foldl (fun s n => refillNode n s) s).desk n) =
      if n ∈ l then ((refillNode n s).meterOf n, (refillNode n s).desk n) else (s.meterOf n, s.desk n) := by
  refine foldl_local (view := fun s n => (s.meterOf n, s.desk n)) (f := fun s n => refillNode n s)
    (fun s i j other => ?_) (fun s t i same => ?_) once s n
  · simp only [refillNode_meterOf, refillNode_desk, other, if_false]
  · obtain ⟨meter, desk⟩ := Prod.mk.inj same
    have starts : s.refillStarts i = t.refillStarts i := by
      rw [State.refillStarts, State.refillStarts, meter, State.headWaits_congr desk, State.headLength_congr desk]
    simp only [refillNode_meterOf, refillNode_desk, if_true, meter, desk, starts]

/-- Only meters and desks are touched. -/
def OnMeters (s t : State) : Prop :=
  t.meter = { s.meter with meters := t.meter.meters } ∧ t = { s with meter := t.meter, admission := t.admission }

theorem OnMeters.settings {t : State} (touched : OnMeters s t) : t.settings = s.settings := by
  rw [touched.2]
  rfl

theorem refillNodes_onMeters (l : List NodePort) (s : State) : OnMeters s (l.foldl (fun s n => refillNode n s) s) := by
  refine foldl_frame (R := OnMeters) (fun s => ⟨rfl, rfl⟩) (fun s t u h h' => ?_) (fun s n => ?_) l s
  · obtain ⟨meter, rest⟩ := h
    obtain ⟨meter', rest'⟩ := h'
    exact ⟨by rw [meter', meter], by rw [rest', rest]⟩
  · rw [refillNode_eq]
    unfold startedIf
    split <;> exact ⟨rfl, rfl⟩

theorem Meter.metered_iff {m : Meter} : m.metered = true ↔ ¬(m.whole = 0 ∧ m.fraction = 0) := by
  simp only [Meter.metered, Bool.not_eq_true', Bool.and_eq_false_iff, beq_eq_false_iff_ne]
  tauto

/-- Settles O32: each node's meter and desk by itself, then what no refill touches (R91, R92, R94). -/
theorem meterExpiryRefills : Obligations.MeterExpiryRefills := by
  intro s
  have each (n : NodePort) : ((meterExpiry s).meterOf n, (meterExpiry s).desk n) =
      ((refillNode n s).meterOf n, (refillNode n s).desk n) := by
    have view := refillNodes_view nodePorts_nodup s n
    rw [if_pos (mem_nodePorts n)] at view
    rw [← view]
    unfold meterExpiry
    generalize nodePorts.foldl (fun s n => refillNode n s) s = t
    rfl
  have meter (n : NodePort) : (meterExpiry s).meterOf n = (s.meterOf n).afterExpiry := by
    rw [(Prod.mk.inj (each n)).1, refillNode_meterOf, if_pos rfl]
  obtain ⟨meters, rest⟩ := refillNodes_onMeters nodePorts s
  have settings := (refillNodes_onMeters nodePorts s).settings
  refine ⟨meterExpiry s, rfl, fun n => ?_, fun n => ?_, ?_, ?_⟩
  · rw [meter, Meter.afterExpiry]
    by_cases metered : (s.meterOf n).metered = true
    · rw [if_pos metered, if_neg (Meter.metered_iff.mp metered)]
      rfl
    · rw [if_neg metered, if_pos (not_not.mp (mt Meter.metered_iff.mpr metered))]
  · rw [(Prod.mk.inj (each n)).2, refillNode_desk, if_pos rfl, meter]
    by_cases metered : (s.meterOf n).metered = true
    · simp [State.refillStarts, Meter.afterExpiry, metered]
    · simp [State.refillStarts, metered]
  · unfold meterExpiry
    generalize nodePorts.foldl (fun s n => refillNode n s) s = t at *
    dsimp only
    rw [settings, meters]
    rfl
  · unfold meterExpiry
    generalize nodePorts.foldl (fun s n => refillNode n s) s = t at *
    dsimp only
    rw [rest]

/-! ## Sixteen refills (R92) -/

/-- The blocks that the fraction has given by a position, counted on without wrapping. -/
def spreadSum (fraction p : Nat) : Nat := p * fraction / 16

theorem spreadSum_wrap (fraction p : Nat) : spreadSum fraction (p + 16) = spreadSum fraction p + fraction := by
  have wrapped : (p + 16) * fraction = p * fraction + 16 * fraction := by ring
  unfold spreadSum
  rw [wrapped]
  omega

/-- The extra block of a position is what the sum gains there, at any multiple of 16 positions further on. -/
theorem Meter.extra_eq {m : Meter} (part : m.fraction < 16) (p : Nat) (position : m.spread = p % 16) :
    m.extra = spreadSum m.fraction (p + 1) - spreadSum m.fraction p := by
  have periods (q : Nat) : spreadSum m.fraction (q + 16 * (p / 16)) = spreadSum m.fraction q + m.fraction * (p / 16) := by
    generalize p / 16 = k
    induction k with
    | zero => simp
    | succ k ih =>
      have : q + 16 * (k + 1) = q + 16 * k + 16 := by omega
      rw [this, spreadSum_wrap, ih, Nat.mul_succ]
      omega
  have low := periods (p % 16)
  have high := periods (p % 16 + 1)
  have split : p % 16 + 16 * (p / 16) = p := Nat.mod_add_div p 16
  have split' : p % 16 + 1 + 16 * (p / 16) = p + 1 := by omega
  rw [split] at low
  rw [split'] at high
  rw [low, high]
  unfold Meter.extra spreadSum
  rw [position, Nat.add_mul (p % 16), Nat.one_mul]
  generalize p % 16 * m.fraction = x
  split <;> omega

theorem spreadSum_mono (fraction : Nat) {p q : Nat} (le : p ≤ q) : spreadSum fraction p ≤ spreadSum fraction q :=
  Nat.div_le_div_right (Nat.mul_le_mul_right _ le)

/-- The meter after some of the sixteen refills, none of which reaches the cap. -/
theorem refills_eq {m : Meter} (position : m.spread < 16) (part : m.fraction < 16)
    (below : m.credit + 16 * m.whole + m.fraction ≤ m.burst) {k : Nat} (few : k ≤ 16) :
    Nat.iterate Meter.refill k m =
      { m with
        credit := m.credit + k * m.whole + (spreadSum m.fraction (m.spread + k) - spreadSum m.fraction m.spread)
        spread := (m.spread + k) % 16 } := by
  induction k with
  | zero => simp [Nat.mod_eq_of_lt position]
  | succ k ih =>
    rw [Function.iterate_succ_apply', ih (by omega)]
    have gained := spreadSum_mono m.fraction (p := m.spread + k) (q := m.spread + k + 1) (by omega)
    have start := spreadSum_mono m.fraction (p := m.spread) (q := m.spread + k) (by omega)
    have most := spreadSum_mono m.fraction (p := m.spread + k + 1) (q := m.spread + 16) (by omega)
    have wrap := spreadSum_wrap m.fraction m.spread
    have whole : k * m.whole + m.whole ≤ 16 * m.whole := by
      rw [← Nat.succ_mul]
      exact Nat.mul_le_mul_right _ few
    obtain ⟨c, credit⟩ : ∃ c,
      c = m.credit + k * m.whole + (spreadSum m.fraction (m.spread + k) - spreadSum m.fraction m.spread) := ⟨_, rfl⟩
    rw [← credit]
    have extra := Meter.extra_eq (m := { m with credit := c, spread := (m.spread + k) % 16 }) part (m.spread + k) rfl
    simp only at extra
    simp only [Meter.refill, extra, Meter.mk.injEq, true_and]
    refine ⟨?_, by omega⟩
    rw [Nat.min_eq_left (by omega), Nat.succ_mul, ← Nat.add_assoc m.spread]
    omega

/-- Settles O33: the sum of the extra blocks gains the fraction over any sixteen positions in a row (R92). -/
theorem sixteenRefillsAddTheRate : Obligations.SixteenRefillsAddTheRate := by
  intro m position part below
  rw [refills_eq position part below (le_refl 16), spreadSum_wrap]
  simp [Nat.mod_eq_of_lt position]

/-! ## The tally period (R101) -/

theorem takeTally_of_end (owed : s.meter.periodOwed = true) (ends : s.meter.periodRead ≤ s.meter.periodCount + 1) :
    takeTally s =
      raiseFlag .tallyReady 0
        { s with
          meter := { s.meter with
            periodOwed := false, tallies := tableMap Tally.snapshot s.meter.tallies, periodCount := 0 } } := by
  simp only [takeTally, owed, if_true, tallyStep, ends]

/-- Settles O35: the snapshot of every tally, then the raise of TALLY_READY, which leaves the meter block alone (R101). -/
theorem periodEndSnapshotsTallies : Obligations.PeriodEndSnapshotsTallies := by
  intro s owed ends
  have eq := takeTally_of_end owed ends
  have meter : (takeTally s).meter =
      { s.meter with
        periodOwed := false, tallies := tableMap Tally.snapshot s.meter.tallies, periodCount := 0 } := by
    rw [eq]; simp
  refine ⟨takeTally s, rfl, fun n => ?_, by rw [meter], by rw [meter], by rw [meter], ?_, fun g other => ?_, ?_⟩
  · rw [State.tallyOf, meter]
    exact tableMap_getElem ..
  · rw [eq]; exact raiseFlag_flagSet_self ..
  · rw [eq, raiseFlag_flagSet]
    simp only [other, decide_false, Bool.or_false]
    rfl
  · rw [meter, eq, raiseFlag_eq]

end Sys2Proof.Machine
end

section
/-! PROOFS. Locks: the hold limit (R160), the handoff of the lockout (R167) and the end of its timer (R166). -/

namespace Sys2Proof.Machine

variable {s t u : State}

/-! ## What touches locks, node links and notices alone -/

/-- Nothing but the lock block, node links and the management block differs. -/
def OnLocks (s t : State) : Prop :=
  t = { s with link := { s.link with nodes := t.link.nodes }, lock := t.lock, management := t.management }

theorem OnLocks.trans (h : OnLocks s t) (h' : OnLocks t u) : OnLocks s u := by
  unfold OnLocks at *
  rw [h', h]

theorem OnLocks.sharesVolume (h : OnLocks s t) (v : Volume) (n : NodePort) : t.sharesVolume v n = s.sharesVolume v n := by
  rw [h]
  rfl

theorem onLocks_lock (s : State) (b : LockBlock) : OnLocks s { s with lock := b } := rfl

theorem raiseFlag_onLocks (f : Flag) (x : Nat) (s : State) : OnLocks s (raiseFlag f x s) := by
  have lock : (raiseFlag f x s).lock = s.lock := by simp
  unfold OnLocks
  rw [lock]
  exact raiseFlag_eq f x s

/-- Settles O48: the lock breaks before LOCK_BROKEN is raised, which leaves the lock block alone (R160). -/
theorem holdLimitBreaksTheLock : Obligations.HoldLimitBreaksTheLock := by
  intro k s owed held limit
  have eq : takeLockStep k s = raiseFlag .lockBroken 0
      (s.setLock k { s.lockAt k with state := .free, age := (s.lockAt k).age + 1, owed := false }) := by
    rw [takeLockStep, if_pos owed, lockStep_held held, if_pos limit]
  have lock : (takeLockStep k s).lock =
      (s.setLock k { s.lockAt k with state := .free, age := (s.lockAt k).age + 1, owed := false }).lock := by
    rw [eq]; simp
  refine ⟨takeLockStep k s, rfl, ?_, fun j other => ?_, ?_, fun g other => ?_, ?_, ?_⟩
  · rw [State.lockAt, lock]
    exact State.setLock_lockAt ..
  · rw [State.lockAt, lock]
    exact State.setLock_lockAt_ne _ _ _ _ other
  · rw [eq]; exact raiseFlag_flagSet_self ..
  · rw [eq, raiseFlag_flagSet]
    simp only [other, decide_false, Bool.or_false]
    rfl
  · rw [lock]; rfl
  · rw [eq]
    exact (onLocks_lock s _).trans (raiseFlag_onLocks ..)

/-! ## The handoff (R167) -/

theorem activateClaim_eq (c : Claim) (s : State) :
    (activateClaim c s).lock = { s.lock with active := some { claim := c, timer := s.settings.lockoutTime } } ∧
      (activateClaim c s).flagSet .lockout = true ∧ OnLocks s (activateClaim c s) :=
  ⟨by simp [activateClaim], raiseFlag_flagSet_self .., (onLocks_lock s _).trans (raiseFlag_onLocks ..)⟩

theorem activateClaim_flagSet {g : Flag} (other : g ≠ .lockout) (c : Claim) (s : State) :
    (activateClaim c s).flagSet g = s.flagSet g := by
  rw [activateClaim, raiseFlag_flagSet]
  simp only [other, decide_false, Bool.or_false]
  rfl

theorem dropWhile_eq_nil {α : Type} {p : α → Bool} {l : List α} (all : ∀ a ∈ l, p a = true) : l.dropWhile p = [] := by
  simpa [List.dropWhile_eq_nil_iff] using all

theorem dropWhile_eq_cons {α : Type} {p : α → Bool} {before : List α} (all : ∀ a ∈ before, p a = true) {a : α}
    (stop : p a = false) (after : List α) : (before ++ a :: after).dropWhile p = a :: after := by
  rw [List.dropWhile_append_of_pos all, List.dropWhile_cons, stop]
  rfl

/-- The handoff serves the pending claims in turn. -/
theorem handOff_handedOver (s : State) : HandedOver s.lock.pendingClaims s (handOff s) := by
  refine ⟨fun none => ?_, fun before c after split discarded passes => ?_⟩
  · have rest := dropWhile_eq_nil (p := fun c : Claim => !s.sharesVolume c.volume c.node)
      (fun c mem => by rw [none c mem]; rfl)
    rw [handOff, rest]
    exact ⟨rfl, rfl⟩
  · have rest : s.lock.pendingClaims.dropWhile (fun c => !s.sharesVolume c.volume c.node) = c :: after := by
      rw [split]
      exact dropWhile_eq_cons (fun x mem => by rw [discarded x mem]; rfl) (by rw [passes]; rfl) after
    rw [handOff, rest]
    obtain ⟨lock, flag, _⟩ := activateClaim_eq c { s with lock := { s.lock with pendingClaims := after } }
    dsimp only
    rw [lock]
    exact ⟨rfl, rfl, flag⟩

/-- A handoff leaves locks, retry counts and the owed mark alone. -/
theorem handOff_lock (s : State) :
    (handOff s).lock =
      { s.lock with active := (handOff s).lock.active, pendingClaims := (handOff s).lock.pendingClaims } := by
  unfold handOff
  split
  · rfl
  · next c rest _ =>
    obtain ⟨lock, _⟩ := activateClaim_eq c { s with lock := { s.lock with pendingClaims := rest } }
    rw [lock]

theorem handOff_onLocks (s : State) : OnLocks s (handOff s) := by
  unfold handOff
  split
  · rfl
  · exact (onLocks_lock s _).trans (activateClaim_eq ..).2.2

/-- Settles O49: the claim's node starts anew, and the handoff goes through the pending claims (R166, R167). -/
theorem timerEndHandsTheLockoutOver : Obligations.TimerEndHandsTheLockoutOver := by
  intro a s owed active last
  obtain ⟨u, before⟩ : ∃ u : State, u = State.setRetry { s with lock := { s.lock with timerOwed := false } }
    a.claim.node 0 := ⟨_, rfl⟩
  have eq : takeTimer s = handOff u := by
    simp only [takeTimer, owed, if_true, timerStep, active, last, before]
  have pending : u.lock.pendingClaims = s.lock.pendingClaims := by rw [before]; rfl
  have lock := handOff_lock u
  have touched : OnLocks s u := by rw [before]; rfl
  have settings : u.settings = s.settings := by rw [before]; rfl
  obtain ⟨none, first⟩ := handOff_handedOver u
  refine ⟨handOff u, by rw [← eq]; rfl, fun m => ?_, ?_, ?_, fun discarded => none ?_, fun b c r split discarded passes => ?_,
    touched.trans (handOff_onLocks u)⟩
  · rw [State.retryCount, lock, before]
    exact State.setRetry_retryCount_eq ..
  · rw [lock, before]
    rfl
  · rw [lock, before]
    rfl
  · rw [pending]
    exact fun c mem => (touched.sharesVolume ..).trans (discarded c mem)
  · rw [← settings]
    exact first b c r (pending.trans split) (fun x mem => (touched.sharesVolume ..).trans (discarded x mem))
      ((touched.sharesVolume ..).trans passes)

end Sys2Proof.Machine
end

section
/-! PROOFS. Loans: GRANT LOAN (R29, R30), check by check. -/

namespace Sys2Proof.Machine

theorem tableFind_congr {α : Type} {n : Nat} {v : Vector α n} {p q : α → Bool}
    (same : ∀ i : Fin n, p v[i.val] = q v[i.val]) : tableFind v p = tableFind v q := by
  cases h : tableFind v q with
  | none => exact tableFind_eq_none.mpr fun i => (same i).trans (tableFind_eq_none.mp h i)
  | some i =>
    obtain ⟨found, first⟩ := tableFind_eq_some.mp h
    exact tableFind_eq_some.mpr ⟨(same i).trans found, fun j lt => (same j).trans (first j lt)⟩

section Grant

variable {h : ManageHeader} {s : State} {v : Volume} {n : NodePort} {m : LoanMode} {i : LoanIdx}

/-- The pair has a loan in force (R29). -/
def State.paired (s : State) (v : Volume) (n : NodePort) : Prop :=
  ∃ j, (s.loanAt j).inForce = true ∧ (s.loanAt j).volume = v ∧ (s.loanAt j).node = n

/-- The volume has a loan in force beside which the mode may not stand (R29). -/
def State.conflicting (s : State) (v : Volume) (m : LoanMode) : Prop :=
  ∃ j, (s.loanAt j).inForce = true ∧ (s.loanAt j).volume = v ∧
    (m = .write ∧ (s.loanAt j).mode ≠ .read ∨ m = .sharedUpdate ∧ (s.loanAt j).mode = .write)

theorem State.paired_iff : tableAny s.loan.loans (fun l => l.inForce && l.ofPair v n) = true ↔ s.paired v n := by
  simp only [tableAny_iff, Loan.ofPair, Bool.and_eq_true, beq_iff_eq]
  rfl

theorem LoanMode.ne_read_iff {x : LoanMode} : x ≠ .read ↔ x = .write ∨ x = .sharedUpdate := by cases x <;> decide

theorem grantCheck_of_paired (paired : s.paired v n) : grantCheck v n m s = some .duplicate := by
  rw [grantCheck, if_pos (State.paired_iff.mpr paired)]

/-- Checks 3 and 4 of R29 refuse exactly a conflicting mode. -/
theorem grantCheck_of_not_paired (unpaired : ¬s.paired v n) :
    (s.conflicting v m → grantCheck v n m s = some .conflict) ∧ (¬s.conflicting v m → grantCheck v n m s = none) := by
  rw [grantCheck, if_neg (mt State.paired_iff.mp unpaired)]
  have write : tableAny s.loan.loans (fun l => l.inForce && l.volume == v && (l.mode == .write || l.mode == .sharedUpdate))
      = true ↔ s.conflicting v .write := by
    simp only [tableAny_iff, Bool.and_eq_true, Bool.or_eq_true, beq_iff_eq, State.conflicting, State.loanAt,
      LoanMode.ne_read_iff, true_and, reduceCtorEq, false_and, or_false, and_assoc]
  have shared : tableAny s.loan.loans (fun l => l.inForce && l.volume == v && l.mode == .write) = true ↔
      s.conflicting v .sharedUpdate := by
    simp only [tableAny_iff, Bool.and_eq_true, beq_iff_eq, State.conflicting, State.loanAt, true_and, reduceCtorEq,
      false_and, false_or, and_assoc]
  cases m with
  | read => simp [State.conflicting]
  | write =>
    rw [← write]
    cases tableAny s.loan.loans _ <;> simp
  | sharedUpdate =>
    rw [← shared]
    have other : (LoanMode.sharedUpdate == LoanMode.write) = false := rfl
    rw [other]
    cases tableAny s.loan.loans _ <;> simp

/-- With no loan in force the pair's entry is the LAPSED or RECALLED one that R30 looks for. -/
theorem grantEntry_eq (unpaired : ¬s.paired v n) :
    grantEntry v n s = (s.pairEntry v n).or (tableFind s.loan.loans (·.state == .free)) := by
  have same : tableFind s.loan.loans (fun l => (l.state == .lapsed || l.state == .recalled) && l.ofPair v n) =
      s.pairEntry v n := by
    refine tableFind_congr fun j => ?_
    by_cases pair : s.loan.loans[j.val].ofPair v n = true
    · have ended : s.loan.loans[j.val].inForce ≠ true := fun force =>
        unpaired ⟨j, force, by simpa [Loan.ofPair, State.loanAt] using pair⟩
      revert ended
      simp only [pair, Bool.and_true, Loan.inForce]
      cases s.loan.loans[j.val].state <;> decide
    · simp only [pair, Bool.and_false]
  rw [grantEntry, same]
  cases s.pairEntry v n <;> rfl

/-- A grant that finds its entry (R30). -/
theorem grant_of_entry {term : Nat} (checked : grantCheck v n m s = none) (entry : grantEntry v n s = some i) :
    grant v n m term s =
      (s.setLoan i { state := .active, volume := v, node := n, mode := m, term := term, age := 0, owed := false }, .ok,
        some i) := by
  rw [grant, checked]
  simp only [entry]

theorem grant_of_refused {term : Nat} {status : ReplyStatus} (checked : grantCheck v n m s = some status) :
    grant v n m term s = (s, status, none) := by
  rw [grant, checked]

theorem grant_of_full {term : Nat} (checked : grantCheck v n m s = none) (entry : grantEntry v n s = none) :
    grant v n m term s = (s, .tableFull, none) := by
  rw [grant, checked]
  simp only [entry]

/-- The reply's index of a grant: its entry's, 0 for a refusal (10.3). -/
def grantIndex : Option LoanIdx → BitVec 16
  | some i => BitVec.ofNat 16 i.val
  | none => 0

theorem serveGrant_of_values {node mode : Byte} {term : BitVec 16} (isNode : node.toNat = n.val)
    (isMode : LoanMode.ofCode mode.toNat = some m) (s : State) :
    serveGrant v node mode term s =
      { state := (grant v n m term.toNat s).1, status := (grant v n m term.toNat s).2.1, image := [],
        index := grantIndex (grant v n m term.toNat s).2.2 } := by
  have inRange : node.toNat < 32 := isNode ▸ n.isLt
  have port : (⟨node.toNat, inRange⟩ : NodePort) = n := Fin.ext isNode
  simp only [serveGrant, isMode, inRange, dite_true, port]
  rfl

theorem exec_grantLoan_of_values {node mode : Byte} {term : BitVec 16} (managed : s.managedBy h)
    (isNode : node.toNat = n.val) (isMode : LoanMode.ofCode mode.toNat = some m) {t : State} {status : ReplyStatus}
    {entry : Option LoanIdx} (granted : grant v n m term.toNat (heard h s) = (t, status, entry))
    (up : (t.node h.port).state = .up) :
    exec (.grantLoan h v node mode term) s =
      .next (replied h.port (.manageReply h.tag 3 status 0 (grantIndex entry) []) t) := by
  have served := serveGrant_of_values (v := v) (term := term) isNode isMode (heard h s)
  rw [granted] at served
  exact congrArg Host.Outcome.next (manage_eq_replied managed served up 3 0 0)

theorem heard_grantCheck (h : ManageHeader) (s : State) : grantCheck v n m (heard h s) = grantCheck v n m s := by
  simp [grantCheck]

theorem heard_grantEntry (h : ManageHeader) (s : State) : grantEntry v n (heard h s) = grantEntry v n s := by
  simp [grantEntry]

end Grant

/-- Settles O21, by R29's checks in their order and by R30's choice of the entry. The frame taken before the checks leaves
the loan table alone. -/
theorem grantsPutThePairInForce : Obligations.GrantsPutThePairInForce := by
  refine ⟨fun h v node mode term s n m i managed isNode isMode alone write shared entry => ?granted,
    fun h v node mode term s managed => ⟨fun bad => ?badValue, fun n m isNode isMode =>
      ⟨fun paired => ?duplicate, fun unpaired conflicting => ?conflict, fun unpaired fits none full => ?full⟩⟩⟩
  case granted =>
    have unpaired : ¬s.paired v n := fun ⟨j, force, volume, node⟩ => alone j force ⟨volume, node⟩
    have fits : ¬s.conflicting v m := by
      rintro ⟨j, force, volume, ⟨isWrite, mode⟩ | ⟨isShared, mode⟩⟩
      · exact mode (write isWrite j force volume)
      · exact shared isShared j force volume mode
    have found : grantEntry v n s = some i := by
      rw [grantEntry_eq unpaired]
      obtain own | ⟨none, free, lowest⟩ := entry
      · rw [own]; rfl
      · rw [none, Option.none_or]
        refine tableFind_eq_some.mpr ⟨by simpa [State.loanAt] using free, fun j lt => ?_⟩
        simpa [State.loanAt] using lowest j lt
    rw [← heard_grantEntry h] at found
    have checked := (grantCheck_of_not_paired unpaired).2 fits
    rw [← heard_grantCheck h] at checked
    exact exec_grantLoan_of_values managed isNode isMode (grant_of_entry checked found) (heard_up managed)
  case badValue =>
    have served : serveGrant v node mode term (heard h s) = ⟨heard h s, .badValue, 0, []⟩ := by
      unfold serveGrant
      split
      · rfl
      · next m isMode =>
        have above : 31 < node.toNat := bad.resolve_right (by rw [isMode]; exact Option.some_ne_none m)
        rw [dif_neg (by omega)]
    exact congrArg Host.Outcome.next (manage_eq_replied managed served (heard_up managed) 3 0 0)
  case duplicate =>
    have checked := grantCheck_of_paired (m := m) paired
    rw [← heard_grantCheck h] at checked
    exact exec_grantLoan_of_values managed isNode isMode (grant_of_refused checked) (heard_up managed)
  case conflict =>
    have checked := (grantCheck_of_not_paired unpaired).1 conflicting
    rw [← heard_grantCheck h] at checked
    exact exec_grantLoan_of_values managed isNode isMode (grant_of_refused checked) (heard_up managed)
  case full =>
    have checked := (grantCheck_of_not_paired unpaired).2 fits
    rw [← heard_grantCheck h] at checked
    have entry : grantEntry v n (heard h s) = Option.none := by
      rw [heard_grantEntry, grantEntry_eq unpaired, none, Option.none_or]
      exact tableFind_eq_none.mpr fun j => by simpa [State.loanAt] using full j
    exact exec_grantLoan_of_values managed isNode isMode (grant_of_full checked entry) (heard_up managed)

end Sys2Proof.Machine
end

section
/-! PROOFS. Creation of stages and joining (R108 to R110, R114, R115). -/

namespace Sys2Proof.Machine

section
variable {s : State} {i : StageIdx} (lowest : (s.stage i).state = .free ∧ ∀ j, j < i → (s.stage j).state ≠ .free)
  (kind : StageKind) (p : Piece) (x : Class) (w : List Waiter) (o : Option Owner) (data : List Block)
include lowest

theorem newStage_stage (j : StageIdx) :
    (newStage kind p x w o data s).stage j = if j = i then (s.stage i).created i kind p x w o data else s.stage j := by
  rw [newStage_of_free lowest.1 lowest.2]
  exact State.setStage_stage_eq s i _ j

theorem newStage_order : (newStage kind p x w o data s).stages.order = s.stages.order ++ [i] := by
  rw [newStage_of_free lowest.1 lowest.2]
  rfl

theorem newStage_disk (d : DiskPort) :
    (newStage kind p x w o data s).disk d =
      if d = p.disk then { s.disk d with lanes := (s.disk d).lanes.set x.val ((s.disk d).lanes[x.val] ++ [i]) }
      else s.disk d := by
  rw [newStage_of_free lowest.1 lowest.2, laneTail_disk]
  split
  · next h => subst h; rfl
  · rfl

/-- What a piece that takes a stage of its own leaves. -/
theorem newStage_effect :
    (newStage kind p x w o data s).stage i = (s.stage i).created i kind p x w o data ∧
      (∀ j, j ≠ i → (newStage kind p x w o data s).stage j = s.stage j) ∧
      (newStage kind p x w o data s).stages.order = s.stages.order ++ [i] ∧
      ∀ d, (newStage kind p x w o data s).disk d =
        if d = p.disk then { s.disk d with lanes := (s.disk d).lanes.set x.val ((s.disk d).lanes[x.val] ++ [i]) }
        else s.disk d := by
  refine ⟨?_, fun j hj => ?_, newStage_order lowest .., fun d => newStage_disk lowest ..⟩
  · rw [newStage_stage lowest, if_pos rfl]
  · rw [newStage_stage lowest, if_neg hj]

end

variable {s : State}

theorem createPiece_write {kind : ReqKind} (write : kind.isWrite = true) (n : NodePort) (k : SlotIdx) (x : Class)
    (p : Piece) (data : List Block) :
    createPiece n k kind x p data s = newStage .store p x [] (some { node := n, slot := k }) data s := by
  rw [createPiece, if_pos write]

theorem createPiece_alone {kind : ReqKind} {n : NodePort} {k : SlotIdx} {p : Piece} (read : kind.isWrite = false)
    (alone : s.joinTarget n k p.disk p.diskGranule = none) (x : Class) (data : List Block) :
    createPiece n k kind x p data s = newStage .fetch p x [waiterOf n k p] none [] s := by
  rw [createPiece, if_neg (by simp [read]), alone]

theorem createPiece_join {kind : ReqKind} {n : NodePort} {k : SlotIdx} {p : Piece} {i : StageIdx}
    (read : kind.isWrite = false) (target : s.joinTarget n k p.disk p.diskGranule = some i) (x : Class)
    (data : List Block) : createPiece n k kind x p data s = joinStage i (waiterOf n k p) x s := by
  rw [createPiece, if_neg (by simp [read]), target]

/-- Settles O37: a piece that joins nothing takes the lowest FREE stage. -/
theorem readPiecesCreateFetches : Obligations.ReadPiecesCreateFetches := by
  unfold Obligations.ReadPiecesCreateFetches
  refine ⟨fun n k kind x p data s i read alone free lower => ?_, fun n k kind x p data s i write free lower => ?_⟩
  · rw [createPiece_alone read alone]
    exact newStage_effect ⟨free, lower⟩ ..
  · rw [createPiece_write write]
    exact newStage_effect ⟨free, lower⟩ ..

/-! ## Joining -/

/-- A joining waiter moves the fetch to another lane exactly where it promotes a QUEUED one (R115). -/
theorem joinStage_cases (i : StageIdx) (w : Waiter) (x : Class) (s : State) :
    ((s.stage i).cls < x ∧ (s.stage i).state = .queued ∧
        (joinStage i w x s).dispatch = (laneTail (s.stage i).disk x i (leaveLanes (s.stage i).disk i s)).dispatch) ∨
      ¬((s.stage i).cls < x ∧ (s.stage i).state = .queued) ∧ (joinStage i w x s).dispatch = s.dispatch := by
  unfold joinStage
  dsimp only
  split
  · next h => exact .inl ⟨h.1, h.2, rfl⟩
  · next h => exact .inr ⟨h, rfl⟩

theorem joinStage_stages (i : StageIdx) (w : Waiter) (x : Class) (s : State) :
    (joinStage i w x s).stages =
      (s.setStage i
        { s.stage i with waiters := (s.stage i).waiters ++ [w], cls := max (s.stage i).cls x }).stages := by
  unfold joinStage
  dsimp only
  split <;> rfl

theorem joinStage_stage (i : StageIdx) (w : Waiter) (x : Class) (s : State) (j : StageIdx) :
    (joinStage i w x s).stage j =
      if j = i then { s.stage i with waiters := (s.stage i).waiters ++ [w], cls := max (s.stage i).cls x }
      else s.stage j := by
  rw [← State.setStage_stage_eq, State.stage, joinStage_stages]
  rfl

/-- The lanes of a disk after a stage has moved to the tail of a lane. -/
theorem movedLane_disk (d : DiskPort) (x : Class) (i : StageIdx) (s : State) (e : DiskPort) :
    (laneTail d x i (leaveLanes d i s)).disk e =
      if e = d then
        { s.disk d with
          lanes := (tableMap (fun l => l.filter (· != i)) (s.disk d).lanes).set x.val
            ((s.disk d).lanes[x.val].filter (· != i) ++ [i]) }
      else s.disk e := by
  rw [laneTail_disk]
  split
  · rw [leaveLanes_disk, if_pos rfl]
    simp
  · next h => rw [leaveLanes_disk, if_neg h]

theorem State.disk_of_chain {d : DiskPort} {g : Nat} {i : StageIdx} (tail : (s.chain d g).getLast? = some i) :
    (s.stage i).disk = d := by
  have : i ∈ s.chain d g := List.mem_of_getLast? tail
  simp only [State.chain, List.mem_filter, Bool.and_eq_true, beq_iff_eq] at this
  exact this.2.1

/-- Settles O38: the fetch at the tail of the chain gains the waiter, and a promoted QUEUED one moves its lane. -/
theorem readPiecesJoinTheTailFetch : Obligations.ReadPiecesJoinTheTailFetch := by
  unfold Obligations.ReadPiecesJoinTheTailFetch
  intro n k kind x p data s i read tail fetch state kept room other
  rw [createPiece_join read (State.joinTarget_eq_some.mpr ⟨tail, Stage.joinable_iff.mpr ⟨fetch, state, kept, room, other⟩⟩)]
  have disk : (s.stage i).disk = p.disk := State.disk_of_chain tail
  refine ⟨?_, fun j hj => ?_, ?_, fun stays => ?_, fun higher queued => ?_⟩
  · rw [joinStage_stage, if_pos rfl]
    rfl
  · rw [joinStage_stage, if_neg hj]
  · rw [joinStage_stages]
    rfl
  · rcases joinStage_cases i (waiterOf n k p) x s with ⟨higher, queued, -⟩ | ⟨-, dispatch⟩
    · exact absurd higher (stays.elim not_lt.mpr fun h => absurd queued h)
    · exact dispatch
  · rcases joinStage_cases i (waiterOf n k p) x s with ⟨-, -, dispatch⟩ | ⟨not, -⟩
    · rw [disk] at dispatch
      have read (e : DiskPort) : (joinStage i (waiterOf n k p) x s).disk e = _ :=
        (congrArg (fun u => u.disks[e.val]) dispatch).trans (movedLane_disk p.disk x i s e)
      refine ⟨?_, fun c hc => ?_, ?_, fun e he => ?_, ?_⟩
      · simp [read]
      · have : x.val ≠ c.val := fun h => hc (Fin.ext h.symm)
        simp [read, this]
      · exact ⟨_, (read _).trans (if_pos rfl)⟩
      · rw [read, if_neg he]
      · rw [dispatch]
        rfl
    · exact absurd ⟨higher, queued⟩ not

end Sys2Proof.Machine
end

section
/-! PROOFS. Disks: HELLO, ACCEPT, NAK, HOLD, RELEASE, the blocks of a FETCH, and sends (07, 6.6). -/

namespace Sys2Proof.Machine

/-! ## Counts of FREE stages, and passes owed (R111) -/

theorem countP_lt_of_new {α : Type} {p q : α → Bool} {l : List α} (more : ∀ a ∈ l, p a = true → q a = true) {a : α}
    (mem : a ∈ l) (not : p a = false) (new : q a = true) : l.countP p < l.countP q := by
  obtain ⟨x, y, rfl⟩ := List.append_of_mem mem
  have left := List.countP_mono_left (p := p) (q := q) (l := x) fun b hb => more b (by simp [hb])
  have right := List.countP_mono_left (p := p) (q := q) (l := y) fun b hb => more b (by simp [hb])
  simp only [List.countP_append, List.countP_cons, not, new]
  simp only [Bool.false_eq_true, if_false, if_true]
  omega

theorem State.freeStages_eq (s : State) :
    s.freeStages = (List.finRange 256).countP fun i => (s.stage i).state == .free := by
  rw [State.freeStages, tableCount, toList_eq_map_finRange, List.countP_map]
  rfl

theorem freeStages_lt {s t : State} (stay : ∀ i, (s.stage i).state = .free → (t.stage i).state = .free) {i : StageIdx}
    (used : (s.stage i).state ≠ .free) (free : (t.stage i).state = .free) : s.freeStages < t.freeStages := by
  rw [State.freeStages_eq, State.freeStages_eq]
  exact countP_lt_of_new (fun j _ h => by simpa using stay j (by simpa using h)) (List.mem_finRange i)
    (by simpa using used) (by simpa using free)

theorem freeStage_freeStages {s : State} {i : StageIdx} (used : (s.stage i).state ≠ .free) :
    s.freeStages < (freeStage i s).freeStages := by
  refine freeStages_lt (fun j free => ?_) used (i := i) ?_ <;> rw [freeStage_stage]
  · split
    · rfl
    · exact free
  · rw [if_pos rfl]
    rfl

theorem owePass_of_lt {before s : State} (more : before.freeStages < s.freeStages) :
    owePass before s = { s with stages := { s.stages with passesDue := s.stages.passesDue + 1 } } := by
  rw [owePass, if_pos more]

theorem owePass_stage (before s : State) (i : StageIdx) : (owePass before s).stage i = s.stage i := by
  unfold owePass
  split <;> rfl

theorem owePass_order (before s : State) : (owePass before s).stages.order = s.stages.order := by
  unfold owePass
  split <;> rfl

/-! ## Matching (R134) -/

variable {s : State} {d : DiskPort} {tag : Tag} {i : StageIdx}

theorem matchReply_eq_some : matchReply d tag s = some i ↔
    i = Fin.ofNat 256 tag.toNat ∧ tag.toNat ≤ 4095 ∧ (s.stage i).generation = tag.toNat / 256 ∧
      (s.stage i).atDisk = true ∧ (s.stage i).disk = d := by
  unfold matchReply
  dsimp only
  constructor
  · intro h
    split at h
    · next matched =>
      cases h
      exact ⟨rfl, matched⟩
    · exact absurd h (by simp)
  · rintro ⟨rfl, matched⟩
    rw [if_pos matched]

theorem onReply_matched {act : StageIdx → State → State} (present : (s.disk d).state = .present)
    (matched : matchReply d tag s = some i) : onReply d tag act (goodDiskFrame d s) = act i (heardFrom d s) := by
  have present' : ((goodDiskFrame d s).disk d).state = .present := present
  have matched' : matchReply d tag (goodDiskFrame d s) = some i := matched
  simp only [onReply, present', matched']
  rfl

/-- A reply from an ABSENT disk, or one that matches no stage, is discarded. -/
theorem onReply_discarded {act : StageIdx → State → State}
    (none : (s.disk d).state = .absent ∨ matchReply d tag s = none) :
    onReply d tag act (goodDiskFrame d s) = heardFrom d s := by
  have same : matchReply d tag (goodDiskFrame d s) = matchReply d tag s := rfl
  unfold onReply
  rw [same]
  split
  · rfl
  · next present =>
    rw [none.resolve_left fun absent => by
      rw [show (s.disk d).state = .present from present] at absent; cases absent]
    rfl

theorem matchReply_none
    (differs : ∀ i : StageIdx, i.val = tag.toNat % 256 → tag.toNat ≤ 4095 → (s.stage i).generation = tag.toNat / 256 →
      (s.stage i).state ≠ .free → (s.stage i).state ≠ .queued → (s.stage i).disk ≠ d) :
    matchReply d tag s = none := by
  rw [Option.eq_none_iff_forall_ne_some]
  intro i matched
  obtain ⟨rfl, range, generation, atDisk, disk⟩ := matchReply_eq_some.mp matched
  obtain ⟨used, sent⟩ := Stage.atDisk_iff.mp atDisk
  exact differs _ (by simp) range generation used sent disk

/-! ## HELLO -/

/-- Settles O39: by whether the disk was PRESENT. -/
theorem hellosMakeDisksPresent : Obligations.HellosMakeDisksPresent := by
  unfold Obligations.HellosMakeDisksPresent
  intro d capacity s
  refine ⟨fun absent => ?_, fun present => ?_⟩
  · have taken : exec (.hello d capacity) s = .next (raiseFlag (.diskUp d) 0
        ((heardFrom d s).setDisk d
          { s.disk d with state := .present, capacity := min capacity.toNat (2 ^ 29) })) := by
      have absent' : ((goodDiskFrame d s).disk d).state = .absent := absent
      refine congrArg Host.Outcome.next ?_
      simp only [helloFrom, absent']
      rfl
    refine ⟨_, taken, ?_, fun e he => ?_, raiseFlag_flagSet_self .., fun g hg => ?_, ?_, ?_⟩
    · simp [State.disk, State.setDisk]
    · have : (raiseFlag (.diskUp d) 0 ((heardFrom d s).setDisk d
          { s.disk d with state := .present, capacity := min capacity.toNat (2 ^ 29) })).disk e =
          ((heardFrom d s).setDisk d
            { s.disk d with state := .present, capacity := min capacity.toNat (2 ^ 29) }).disk e := by
        simp [State.disk]
      rw [this, State.setDisk_disk_ne _ _ _ _ he]
      rfl
    · rw [raiseFlag_flagSet, decide_eq_false hg, Bool.or_false]
      rfl
    · rw [raiseFlag_diskLink]
      rfl
    · rw [raiseFlag_eq]
      rfl
  · have present' : ((goodDiskFrame d s).disk d).state = .present := present
    refine congrArg Host.Outcome.next ?_
    simp only [helloFrom, present']
    rw [present]
    rfl

/-! ## HOLD and RELEASE (R142, R143) -/

theorem returnToLane_disk (i : StageIdx) (s : State) (e : DiskPort) :
    (returnToLane i s).disk e =
      if e = (s.stage i).disk then
        { s.disk e with
          lanes := (s.disk e).lanes.set (s.stage i).cls.val (i :: (s.disk e).lanes[(s.stage i).cls.val]) }
      else s.disk e := by
  rw [returnToLane, laneFront_disk]
  split
  · next h => subst h; rfl
  · rfl

theorem returnToLanes_stage (l : List StageIdx) (s : State) (j : StageIdx) :
    (l.foldl (fun s i => returnToLane i s) s).stage j =
      if j ∈ l then { s.stage j with state := .queued, owed := false } else s.stage j := by
  induction l generalizing s with
  | nil => rfl
  | cons i l ih =>
    rw [List.foldl_cons, ih, returnToLane_stage]
    by_cases h : j = i
    · subst h; simp
    · simp [h]

/-- Stages that return one after the other stand at the fronts of their lanes, the last to return foremost. -/
theorem returnToLanes_disk (l : List StageIdx) (s : State) (e : DiskPort) :
    (∃ lanes, (l.foldl (fun s i => returnToLane i s) s).disk e = { s.disk e with lanes := lanes }) ∧
      ∀ x : Class, ((l.foldl (fun s i => returnToLane i s) s).disk e).lanes[x.val] =
        (l.filter fun i => (s.stage i).disk == e && (s.stage i).cls == x).reverse ++ (s.disk e).lanes[x.val] := by
  induction l generalizing s with
  | nil => exact ⟨⟨_, rfl⟩, fun _ => rfl⟩
  | cons i l ih =>
    obtain ⟨⟨lanes, record⟩, lane⟩ := ih (returnToLane i s)
    have same (j : StageIdx) : ((returnToLane i s).stage j).disk = (s.stage j).disk ∧
        ((returnToLane i s).stage j).cls = (s.stage j).cls := by
      rw [returnToLane_stage]
      split
      · next h => subst h; exact ⟨rfl, rfl⟩
      · exact ⟨rfl, rfl⟩
    simp only [same, returnToLane_disk] at record lane
    refine ⟨?_, fun x => ?_⟩
    · rw [List.foldl_cons, record]
      split <;> exact ⟨_, rfl⟩
    · rw [List.foldl_cons, lane, List.filter_cons]
      by_cases disk : e = (s.stage i).disk
      · by_cases cls : (s.stage i).cls = x
        · subst disk cls
          simp
        · have : (s.stage i).cls.val ≠ x.val := fun h => cls (Fin.ext h)
          simp [disk, cls, this]
      · simp [disk, Ne.symm disk]

theorem returnToLanes_otherDisk {l : List StageIdx} {s : State} {e : DiskPort}
    (other : ∀ i ∈ l, (s.stage i).disk ≠ e) : (l.foldl (fun s i => returnToLane i s) s).disk e = s.disk e := by
  induction l generalizing s with
  | nil => rfl
  | cons i l ih =>
    have here := returnToLane_disk i s e
    rw [if_neg (Ne.symm (other i (List.mem_cons_self ..)))] at here
    rw [List.foldl_cons, ih fun j mem => ?_, here]
    rw [returnToLane_stage]
    split
    · exact other i (List.mem_cons_self ..)
    · exact other j (List.mem_cons_of_mem _ mem)

/-- Settles O41: the RETRYING stages of the disk return in ascending order; RELEASE writes one field. -/
theorem holdsReturnRetryingStages : Obligations.HoldsReturnRetryingStages := by
  unfold Obligations.HoldsReturnRetryingStages
  intro d s present
  have present' : ((goodDiskFrame d s).disk d).state = .present := present
  refine ⟨?_, ?_⟩
  · obtain ⟨held, held_eq⟩ : ∃ u, u = (heardFrom d s).setDisk d { s.disk d with held := true } := ⟨_, rfl⟩
    have taken : exec (.hold d) s =
        .next ((s.retryingOf d).reverse.foldl (fun s i => returnToLane i s) held) := by
      refine congrArg Host.Outcome.next ?_
      simp only [holdFrom, present']
      rw [held_eq, ← present]
      rfl
    have stage (i : StageIdx) : held.stage i = s.stage i := by rw [held_eq]; rfl
    have disk (e : DiskPort) : held.disk e = if e = d then { s.disk d with held := true } else s.disk e := by
      rw [held_eq]
      exact State.setDisk_disk_eq (heardFrom d s) d { s.disk d with held := true } e
    have lanes (e : DiskPort) : (held.disk e).lanes = (s.disk e).lanes := by
      rw [disk]
      split
      · next h => rw [h]
      · rfl
    have onDisk (i : StageIdx) (mem : i ∈ (s.retryingOf d).reverse) : (s.stage i).disk = d :=
      (State.mem_retryingOf.mp (List.mem_reverse.mp mem)).2
    obtain ⟨⟨lanes', record⟩, -⟩ := returnToLanes_disk (s.retryingOf d).reverse held d
    refine ⟨_, taken, fun i => ?_, ?_, ?_, ?_, ?_, fun x => ?_, fun e he => ?_, ?_⟩
    · rw [returnToLanes_stage, stage]
      simp only [List.mem_reverse, State.mem_retryingOf]
    · rw [record, disk, if_pos rfl]
    · rw [record, disk, if_pos rfl]
      exact present
    · rw [record, disk, if_pos rfl]
    · rw [record, disk, if_pos rfl]
    · rw [(returnToLanes_disk _ _ _).2, lanes, List.filter_reverse, List.reverse_reverse, State.retryingOf,
        tableFilter_eq_filter, List.filter_filter]
      refine congrArg (· ++ _) (List.filter_congr fun i _ => ?_)
      rw [stage]
      rw [Bool.eq_iff_iff, State.stage]
      simp only [Bool.and_eq_true, beq_iff_eq]
      tauto
    · rw [returnToLanes_otherDisk fun i mem => by rw [stage, onDisk i mem]; exact Ne.symm he, disk, if_neg he]
    · obtain ⟨-, -, -, -, -, -, management, -⟩ := returnToLanes_frame (s.retryingOf d).reverse held
      rw [management, held_eq]
      rfl
  · refine congrArg Host.Outcome.next ?_
    simp only [releaseFrom, present']
    rw [← present]
    rfl

end Sys2Proof.Machine
end

section
/-! PROOFS. Disks: ACCEPT, NAK, the blocks of a FETCH, and sends (R117, R118, R134 to R140). -/

namespace Sys2Proof.Machine

section
variable {s : State} {d : DiskPort} {tag : Tag} {i : StageIdx}

/-! ## ACCEPT and NAK (R139, R140) -/

/-- An abandoned stage that is freed leaves its chain, with one pass owed. -/
theorem owePass_freeStage (used : (s.stage i).state ≠ .free) :
    ((owePass s (freeStage i s)).stage i).state = .free ∧
      ((owePass s (freeStage i s)).stage i).generation = (s.stage i).generation ∧
      (∀ j, j ≠ i → (owePass s (freeStage i s)).stage j = s.stage j) ∧
      (owePass s (freeStage i s)).stages.order = s.stages.order.filter (· != i) ∧
      (owePass s (freeStage i s)).stages.passesDue = s.stages.passesDue + 1 ∧
      (owePass s (freeStage i s)).admission = s.admission := by
  refine ⟨?_, ?_, fun j hj => ?_, owePass_order .., ?_, by simp⟩
  · rw [owePass_stage, freeStage_stage, if_pos rfl]
    rfl
  · rw [owePass_stage, freeStage_stage, if_pos rfl]
    rfl
  · rw [owePass_stage, freeStage_stage, if_neg hj]
  · rw [owePass_of_lt (freeStage_freeStages used)]
    rfl

theorem returnToLane_outstanding (atDisk : (s.stage i).atDisk = true) (disk : (s.stage i).disk = d) :
    (returnToLane i s).outstanding d + 1 = s.outstanding d := by
  have h := tableCount_set s.stages.table (fun st => st.atDisk && st.disk == d) i
    { s.stage i with state := .queued, owed := false }
  have here : ((s.stages.table[i.val]).atDisk && (s.stages.table[i.val]).disk == d) = true := by
    rw [← State.stage, atDisk, disk]
    simp
  have gone : (({ s.stage i with state := .queued, owed := false } : Stage).atDisk &&
      ({ s.stage i with state := .queued, owed := false } : Stage).disk == d) = false := rfl
  rw [here, gone, if_pos rfl, if_neg Bool.false_ne_true] at h
  exact h

/-- A NAK by the state of its stage (R140). -/
theorem nakFor_cases (i : StageIdx) (s : State) (atDisk : (s.stage i).atDisk = true) :
    ((s.stage i).state ≠ .retrying → (s.stage i).abandoned = true → nakFor i s = owePass s (freeStage i s)) ∧
      ((s.stage i).state = .sent → (s.stage i).abandoned = false → (s.disk (s.stage i).disk).held = true →
        nakFor i s = returnToLane i s) ∧
      ((s.stage i).state = .sent → (s.stage i).abandoned = false → (s.disk (s.stage i).disk).held = false →
        nakFor i s = s.setStage i { s.stage i with state := .retrying }) ∧
      ((s.stage i).state = .retrying ∨ (s.stage i).state ≠ .sent ∧ (s.stage i).abandoned = false → nakFor i s = s) := by
  obtain ⟨used, notQueued⟩ := Stage.atDisk_iff.mp atDisk
  unfold nakFor
  dsimp only
  cases state : (s.stage i).state with
  | free => exact absurd state used
  | queued => exact absurd state notQueued
  | sent => exact ⟨fun _ h => by simp [h], fun _ h held => by simp [h, held], fun _ h held => by simp [h, held], by simp⟩
  | accepted => exact ⟨fun _ h => by simp [h], by simp, by simp, fun h => by simp [h.resolve_left]⟩
  | streaming => exact ⟨fun _ h => by simp [h], by simp, by simp, fun h => by simp [h.resolve_left]⟩
  | retrying => exact ⟨by simp, by simp, by simp, fun _ => rfl⟩

theorem acceptFor_sent (sent : (s.stage i).state = .sent) :
    acceptFor i s = s.setStage i { s.stage i with state := .accepted, acceptAge := 0 } := by
  simp only [acceptFor, sent]

theorem acceptFor_other (other : (s.stage i).state ≠ .sent) : acceptFor i s = s := by
  unfold acceptFor
  dsimp only
  split
  · next sent => exact absurd sent other
  · rfl

/-- Settles O40: by the state of the matched stage; a reply that matches none is discarded. -/
theorem acceptsAndNaksMoveTheirStage : Obligations.AcceptsAndNaksMoveTheirStage := by
  unfold Obligations.AcceptsAndNaksMoveTheirStage
  refine ⟨fun d tag i s present matched => ?_, fun d s => ⟨fun absent => ?_, fun tag unmatched => ?_⟩⟩
  · obtain ⟨-, -, -, atDisk, disk⟩ := matchReply_eq_some.mp matched
    have accepted : exec (.accept d tag) s = .next (acceptFor i (heardFrom d s)) :=
      congrArg Host.Outcome.next (onReply_matched present matched)
    have nak : exec (.nak d tag) s = .next (nakFor i (heardFrom d s)) :=
      congrArg Host.Outcome.next (onReply_matched present matched)
    obtain ⟨freed, held, retried, ignored⟩ := nakFor_cases i (heardFrom d s) atDisk
    have heldHere : ((heardFrom d s).disk ((heardFrom d s).stage i).disk).held = (s.disk d).held := by
      rw [show ((heardFrom d s).stage i).disk = d from disk]
      rfl
    rw [heldHere] at held retried
    refine ⟨fun sent => ?_, fun other => ?_, fun sent kept free => ?_, fun sent kept full => ?_, fun other gone => ?_,
      fun other => ?_⟩
    · rw [accepted, acceptFor_sent (s := heardFrom d s) sent]
      rfl
    · rw [accepted, acceptFor_other (s := heardFrom d s) other]
    · rw [nak, retried sent kept free]
      rfl
    · refine ⟨_, nak, ?_⟩
      rw [held sent kept full]
      refine ⟨?_, fun j hj => ?_, ?_, returnToLane_outstanding (s := heardFrom d s) atDisk disk⟩
      · rw [returnToLane_stage, if_pos rfl]
        rfl
      · rw [returnToLane_stage, if_neg hj]
        rfl
      · have here : d = ((heardFrom d s).stage i).disk := disk.symm
        rw [returnToLane_disk, if_pos here]
        exact Vector.getElem_set_self _
    · refine ⟨_, nak, ?_⟩
      rw [freed other gone]
      exact owePass_freeStage (s := heardFrom d s) (Stage.atDisk_iff.mp atDisk).1
    · rw [nak, ignored other]
  · have absent' : ((goodDiskFrame d s).disk d).state = .absent := absent
    refine ⟨congrArg Host.Outcome.next ?_, congrArg Host.Outcome.next ?_⟩
    · simp only [holdFrom, absent']
      rfl
    · simp only [releaseFrom, absent']
      rfl
  · have none : (s.disk d).state = .absent ∨ matchReply d tag s = none := unmatched.imp_right matchReply_none
    have discarded (act : StageIdx → State → State) :
        (Host.Outcome.next (onReply d tag act (goodDiskFrame d s)) : Result) = .next (heardFrom d s) :=
      congrArg Host.Outcome.next (onReply_discarded none)
    exact ⟨discarded _, discarded _, discarded _, fun _ => discarded _, fun _ _ => discarded _⟩

/-! ## The blocks of a FETCH (R117, R118) -/

theorem deliverTo_node (w : Waiter) (b : BlockIdx) (block : Block) (s : State) (n : NodePort) :
    ((deliverTo w b block s).node n).state = (s.node n).state ∧
      ((s.node n).state = .up → ((deliverTo w b block s).node n).out = (s.node n).out ++
        if w.node = n ∧ w.wants b.val = true then [.data (s.slot w.node w.slot).tag w.granule b block] else []) := by
  unfold deliverTo
  split
  · next wants =>
    rw [produceNode_node]
    by_cases h : n = w.node
    · subst h
      simp +contextual [wants]
    · simp [h, Ne.symm h]
  · next not => simp [not]

theorem deliverAll_node (ws : List Waiter) (b : BlockIdx) (block : Block) (s : State) (n : NodePort) :
    (s.node n).state = .up → ((ws.foldl (fun s w => deliverTo w b block s) s).node n).out = (s.node n).out ++
      (ws.filter fun w => w.node == n && w.wants b.val).map fun w =>
        .data (s.slot n w.slot).tag w.granule b block := by
  induction ws generalizing s with
  | nil => intro _; simp
  | cons w ws ih =>
    intro up
    obtain ⟨state, out⟩ := deliverTo_node w b block s n
    have slot (m : NodePort) (k : SlotIdx) : (deliverTo w b block s).slot m k = s.slot m k := by
      simp [State.slot, State.desk]
    rw [List.foldl_cons, ih _ (state.trans up), out up, List.filter_cons]
    simp only [slot]
    by_cases h : w.node = n ∧ w.wants b.val = true
    · simp [h]
    · rw [if_neg h, if_neg (by simpa using h)]
      simp

theorem dataFor_expected {index : Byte} {block : Block} {b : BlockIdx} (fetch : (s.stage i).kind = .fetch)
    (state : (s.stage i).state = .accepted ∨ (s.stage i).state = .streaming ∧ (s.stage i).arrived < 8)
    (here : index.toNat = b.val) (next : b.val = ((s.stage i).lead + (s.stage i).arrived) % 8) :
    dataFor index block i s = takeBlock i b block s := by
  have b_eq : (Fin.ofNat 8 index.toNat : BlockIdx) = b := Fin.ext (by simp [here])
  unfold dataFor
  dsimp only
  rw [if_pos ⟨fetch, state, by rw [here, next, Stage.expected]⟩, b_eq]

theorem Waiter.wants_eq (w : Waiter) (b : Nat) : w.wants b = decide (w.first ≤ b ∧ b < w.first + w.count) := by
  simp [Waiter.wants]

/-- Settles O42: the block is taken, then delivered to the waiters in order. -/
theorem blocksAreTakenInWrappedOrder : Obligations.BlocksAreTakenInWrappedOrder := by
  unfold Obligations.BlocksAreTakenInWrappedOrder
  intro d index tag block i s b present matched fetch state here next
  obtain ⟨kept, kept_eq⟩ : ∃ u, u = (heardFrom d s).setStage i (((heardFrom d s).stage i).take b block) := ⟨_, rfl⟩
  have taken : exec (.diskData d index tag block) s =
      .next ((s.stage i).waiters.foldl (fun s w => deliverTo w b block s) kept) := by
    rw [kept_eq]
    refine congrArg Host.Outcome.next ((onReply_matched present matched).trans ?_)
    rw [dataFor_expected (s := heardFrom d s) fetch state here next, takeBlock]
    rfl
  obtain ⟨admission, lending, loan, meter, stages, dispatch, lock, management, pending, draws⟩ :=
    deliverAll_frame (s.stage i).waiters b block kept
  have stage (j : StageIdx) : ((s.stage i).waiters.foldl (fun s w => deliverTo w b block s) kept).stage j =
      if j = i then (s.stage i).take b block else s.stage j := by
    rw [State.stage, stages, ← State.stage, kept_eq]
    exact State.setStage_stage_eq (heardFrom d s) i _ j
  refine ⟨_, taken, ?_, fun j hj => ?_, fun n up => ?_, ?_⟩
  · rw [stage, if_pos rfl, Stage.take]
    simp only [Waiter.wants_eq, decide_eq_true_eq]
  · rw [stage, if_neg hj]
  · have node : kept.node n = s.node n := by rw [kept_eq]; rfl
    have slot (m : NodePort) (k : SlotIdx) : kept.slot m k = s.slot m k := by rw [kept_eq]; rfl
    rw [deliverAll_node _ _ _ _ _ (by rw [node]; exact up), node]
    simp only [slot, Waiter.wants_eq]
  · generalize (s.stage i).waiters.foldl (fun s w => deliverTo w b block s) kept = t at *
    have kept_frame : kept = { s with link := kept.link, stages := kept.stages } := by rw [kept_eq]; rfl
    rw [kept_frame] at admission lending loan meter dispatch lock management pending draws
    cases t
    simp only at admission lending loan meter dispatch lock management pending draws
    simp only [admission, lending, loan, meter, dispatch, lock, management, pending, draws]

end

/-! ## Sends (R136, R137) -/

section
variable {s : State} {d : DiskPort} {c : Class} {i : StageIdx}

theorem State.laneChoice_eq_none
    (none : ∀ i ∈ (s.disk d).lanes[c.val], ¬((s.stage i).state = .queued ∧ s.isChainHead i = true)) :
    s.laneChoice d c = .none := by
  rw [State.laneChoice, List.find?_eq_none]
  intro i mem
  simpa using none i mem

theorem State.laneChoice_of_nearest {before after : List StageIdx} (lane : (s.disk d).lanes[c.val] = before ++ i :: after)
    (queued : (s.stage i).state = .queued) (head : s.isChainHead i = true)
    (nearest : ∀ j ∈ before, ¬((s.stage j).state = .queued ∧ s.isChainHead j = true)) :
    s.laneChoice d c = some i := by
  rw [State.laneChoice, lane, List.find?_eq_some_iff_append]
  exact ⟨by simp [queued, head], before, after, rfl, fun j mem => by simpa [imp_iff_not_or] using nearest j mem⟩

/-- The lane of the highest class that offers a stage is the one that dispatch serves. -/
theorem State.choice_of_highest (present : (s.disk d).state = .present) (free : (s.disk d).held = false)
    (room : s.outstanding d < (s.disk d).depth) (offers : s.laneChoice d c = some i)
    (higher : ∀ e : Class, c < e → s.laneChoice d e = none) : s.choice d = some i := by
  rw [State.choice, if_pos ⟨present, free, room⟩]
  match c, offers, higher with
  | 3, offers, _ => simp [offers]
  | 2, offers, higher => simp [offers, higher 3 (by decide)]
  | 1, offers, higher => simp [offers, higher 3 (by decide), higher 2 (by decide)]
  | 0, offers, higher => simp [offers, higher 3 (by decide), higher 2 (by decide), higher 1 (by decide)]

theorem State.choice_eq_none
    (none : (s.disk d).state = .absent ∨ (s.disk d).held = true ∨ (s.disk d).depth ≤ s.outstanding d ∨
      ∀ c : Class, ∀ i ∈ (s.disk d).lanes[c.val], ¬((s.stage i).state = .queued ∧ s.isChainHead i = true)) :
    s.choice d = .none := by
  unfold State.choice
  split
  · next conditions =>
    obtain ⟨present, free, room⟩ := conditions
    have empty : ∀ c : Class, ∀ i ∈ (s.disk d).lanes[c.val], ¬((s.stage i).state = .queued ∧ s.isChainHead i = true) := by
      rcases none with absent | held | full | empty
      · rw [present] at absent; cases absent
      · rw [free] at held; cases held
      · omega
      · exact empty
    simp only [State.laneChoice_eq_none (empty _)]
  · rfl

/-- What a send leaves: the stage SENT and out of its lane, its command at the tail of the list. -/
theorem sendStage_effect (d : DiskPort) (i : StageIdx) (s : State) :
    (sendStage d i s).stage i = { s.stage i with state := .sent, sendAge := 0 } ∧
      (∀ j, j ≠ i → (sendStage d i s).stage j = s.stage j) ∧
      (∀ e, (sendStage d i s).disk e =
        if e = d then { s.disk d with lanes := tableMap (fun l => l.filter (· != i)) (s.disk d).lanes } else s.disk e) ∧
      ∀ e, (sendStage d i s).diskLink e =
        if e = d then
          { s.diskLink d with out := (s.diskLink d).out ++ [(s.stage i).command], produced := true }
        else s.diskLink e := by
  have stage := State.setStage_stage_eq s i { s.stage i with state := .sent, sendAge := 0 }
  refine ⟨(stage i).trans (if_pos rfl), fun j hj => (stage j).trans (if_neg hj), ?_, ?_⟩
  · exact leaveLanes_disk d i (s.setStage i { s.stage i with state := .sent, sendAge := 0 })
  · have command : ((s.setStage i { s.stage i with state := .sent, sendAge := 0 }).stage i).command =
        (s.stage i).command := by
      rw [State.setStage_stage]
      rfl
    rw [← command]
    exact State.setDiskLink_diskLink_eq (leaveLanes d i (s.setStage i { s.stage i with state := .sent, sendAge := 0 })) d _

/-- Settles O45: by whether a lane offers a chain head. -/
theorem sendsTakeTheHighestChainHead : Obligations.SendsTakeTheHighestChainHead := by
  unfold Obligations.SendsTakeTheHighestChainHead
  refine fun d s => ⟨fun none => ?_, fun c before after i present free room lane queued head nearest higher => ?_⟩
  · refine congrArg Host.Outcome.next ?_
    simp only [sendTo, State.choice_eq_none none]
  · have choice : s.choice d = some i :=
      State.choice_of_highest present free room (State.laneChoice_of_nearest lane queued head nearest)
        fun e he => State.laneChoice_eq_none (higher e he)
    have taken : exec (.send d) s = .next (sendStage d i s) :=
      congrArg Host.Outcome.next (by simp only [sendTo, choice])
    obtain ⟨sent, others, disk, diskLink⟩ := sendStage_effect d i s
    refine ⟨_, taken, sent, others, fun e => ?_, fun e he => ⟨?_, ?_⟩, rfl, ?_, rfl⟩
    · rw [disk, if_pos rfl, tableMap_getElem]
    · rw [disk, if_neg he]
    · rw [diskLink, if_neg he]
    · exact (diskLink d).trans (if_pos rfl)

end

end Sys2Proof.Machine
end

section
/-! PROOFS. Admission: the arrival of a REQUEST (4.2), and the passes of the arbiter (6.3). -/

namespace Sys2Proof.Machine

/-! ## Arrival (R70 to R72) -/

theorem requestForm_eq_some {f : RequestFrame} {kind : ReqKind} : requestForm f = some kind ↔ GoodForm f kind := by
  have length : f.blocks.length = (if kind.isWrite then f.length.toNat else 0) ↔
      (kind.isWrite = true → f.blocks.length = f.length.toNat) ∧ (kind.isWrite = false → f.blocks = []) := by
    cases kind.isWrite <;> simp
  unfold requestForm GoodForm
  rw [← and_assoc (c := kind.isLock = true → _), ← length]
  constructor
  · intro h
    cases code : ReqKind.ofCode f.kind.toNat with
    | none => simp [code] at h
    | some found =>
      rw [code] at h
      obtain ⟨form, same⟩ := Option.ite_none_right_eq_some.mp h
      cases same
      exact ⟨rfl, form⟩
  · rintro ⟨code, form⟩
    simp only [code]
    rw [if_pos form]

section
variable {s : State} {n : NodePort} {f : RequestFrame} {kind : ReqKind}

theorem State.tagInUse_iff : tableAny (s.desk n).slots (fun sl => sl.state != .free && sl.tag == f.tag) = true ↔
    ∃ l, (s.slot n l).state ≠ .free ∧ (s.slot n l).tag = f.tag := by
  rw [tableAny_iff]
  simp [State.slot]

theorem State.freeSlot_eq_some {k : SlotIdx} : tableFind (s.desk n).slots (·.state == .free) = some k ↔
    (s.slot n k).state = .free ∧ ∀ l, l < k → (s.slot n l).state ≠ .free := by
  rw [tableFind_eq_some]
  simp [State.slot]

theorem arrive_malformed (bad : ∀ kind, ¬GoodForm f kind) : arrive n f s = produceDone n f.tag .malformed 0 s := by
  have none : requestForm f = none := by
    rw [Option.eq_none_iff_forall_ne_some]
    exact fun kind form => bad kind (requestForm_eq_some.mp form)
  simp only [arrive, none]

theorem arrive_inUse (form : GoodForm f kind) (inUse : ∃ l, (s.slot n l).state ≠ .free ∧ (s.slot n l).tag = f.tag) :
    arrive n f s = produceDone n f.tag .malformed 0 s := by
  simp only [arrive, requestForm_eq_some.mpr form, State.tagInUse_iff.mpr inUse, if_true]

section
variable (fresh : ∀ l, (s.slot n l).state ≠ .free → (s.slot n l).tag ≠ f.tag)
include fresh

theorem State.tagInUse_of_fresh :
    tableAny (s.desk n).slots (fun sl => sl.state != .free && sl.tag == f.tag) = false := by
  rw [← Bool.not_eq_true, State.tagInUse_iff]
  rintro ⟨l, used, tag⟩
  exact fresh l used tag

theorem arrive_busy (form : GoodForm f kind)
    (full : (∀ l, (s.slot n l).state ≠ .free) ∨ kind.isWrite = true ∧ s.poolFree < f.length.toNat) :
    arrive n f s = produceDone n f.tag .busy 0 s := by
  simp only [arrive, requestForm_eq_some.mpr form, State.tagInUse_of_fresh fresh, Bool.false_eq_true, if_false]
  split
  · rfl
  · next k free =>
    rw [if_pos (full.resolve_left fun used => used k (State.freeSlot_eq_some.mp free).1)]

theorem arrive_accepted {k : SlotIdx} (form : GoodForm f kind)
    (lowest : (s.slot n k).state = .free ∧ ∀ l, l < k → (s.slot n l).state ≠ .free)
    (room : kind.isWrite = true → f.length.toNat ≤ s.poolFree) :
    arrive n f s = noteHead n s (acceptRequest n k kind f s) := by
  simp only [arrive, requestForm_eq_some.mpr form, State.tagInUse_of_fresh fresh, Bool.false_eq_true, if_false,
    State.freeSlot_eq_some.mpr lowest]
  rw [if_neg fun full => by have := room full.1; omega]

end

theorem setDesk_self (n : NodePort) (s : State) : s.setDesk n (s.desk n) = s := by
  simp [State.setDesk, State.desk]

/-- An accepted request at the tail of a wait list starts an attempt where the list was empty. -/
theorem noteHead_acceptRequest (n : NodePort) (k : SlotIdx) (kind : ReqKind) (f : RequestFrame) (s : State) :
    noteHead n s (acceptRequest n k kind f s) =
      (acceptRequest n k kind f s).setDesk n
        { (acceptRequest n k kind f s).desk n with
          attemptsDue := (s.desk n).attemptsDue + (if (s.desk n).waitList = [] then 1 else 0) } := by
  have waitList : ((acceptRequest n k kind f s).desk n).waitList = (s.desk n).waitList ++ [k] := by simp [acceptRequest]
  have due : ((acceptRequest n k kind f s).desk n).attemptsDue = (s.desk n).attemptsDue := by simp [acceptRequest]
  unfold noteHead
  rw [State.headOf, State.headOf, waitList]
  cases list : (s.desk n).waitList with
  | nil => simp [startAttempt, due]
  | cons l ls =>
    rw [if_neg (by simp), Nat.add_zero, ← due, setDesk_self]
    exact if_pos rfl

/-- Settles O26, by the outcome of the arrival checks. -/
theorem requestsAreAcceptedIntoTheLowestSlot : Obligations.RequestsAreAcceptedIntoTheLowestSlot := by
  unfold Obligations.RequestsAreAcceptedIntoTheLowestSlot
  have arrives (n : NodePort) (f : RequestFrame) (s : State) (up : (s.node n).state = .up) :
      exec (.request n f) s = .next (arrive n f (heardOn n s)) :=
    congrArg (fun u => Host.Outcome.next (arrive n f u)) (goodNodeFrame_eq_heardOn up)
  refine ⟨fun n f kind k s up form fresh free lower room => ?_, fun n f s up => ?_⟩
  · have taken := arrives n f s up
    rw [arrive_accepted (s := heardOn n s) fresh form ⟨free, lower⟩ room, noteHead_acceptRequest] at taken
    refine ⟨_, taken, ?_⟩
    have class_eq : (heardOn n s).classOf n f.hint =
        min (s.management.classMap[f.hint.toNat % 8]'(Nat.mod_lt _ (by decide))) (s.node n).ceiling := by
      simp only [State.classOf, heardOn_node_self]
      rfl
    have desk (m : NodePort) : (heardOn n s).desk m = s.desk m := rfl
    rw [← class_eq]
    refine ⟨?_, fun l hl => ?_, ?_, ?_, fun m hm => ?_, rfl⟩
    · simp [State.slot, acceptRequest]
    · have : k.val ≠ l.val := fun h => hl (Fin.ext h.symm)
      simp [State.slot, acceptRequest, this, desk]
    · simp [acceptRequest, desk]
    · simp [desk]
    · simp [acceptRequest, State.setDesk_desk_ne, hm, desk]
  · have refused (status : Status) : produceDone n f.tag status 0 (heardOn n s) =
        replied n (.done f.tag status 0) (heardOn n s) :=
      produceNode_eq_replied (s := heardOn n s) (by rw [heardOn_node_self]; exact up) _
    refine ⟨fun bad => ?_, fun kind form => ⟨fun inUse => ?_, fun fresh full => ?_⟩⟩
    · rw [arrives n f s up, arrive_malformed bad, refused]
    · rw [arrives n f s up, arrive_inUse (s := heardOn n s) form inUse, refused]
    · rw [arrives n f s up, arrive_busy (s := heardOn n s) fresh form full, refused]

end

/-! ## Passes of the arbiter (R111) -/

/-- The service of a list of nodes, each in turn. -/
def servedAll (ns : List NodePort) (s : State) : State :=
  ns.foldl (fun u n => attempt n { u with stages := { u.stages with lastServed := n } }) s

/-- A pass serves a prefix of its nodes, and has a FREE stage before each service. -/
theorem serveNodes_served (ns : List NodePort) (s : State) :
    ∃ served rest, ns = served ++ rest ∧ serveNodes ns s = servedAll served s ∧
      (rest = [] ∨ (servedAll served s).freeStages = 0) ∧
      ∀ before n after, served = before ++ n :: after → (servedAll before s).freeStages ≠ 0 := by
  induction ns generalizing s with
  | nil => exact ⟨[], [], rfl, rfl, .inl rfl, fun before n after h => by simp at h⟩
  | cons n ns ih =>
    by_cases full : s.freeStages = 0
    · exact ⟨[], n :: ns, rfl, by simp [serveNodes, full, servedAll], .inr full, fun before n after h => by simp at h⟩
    · obtain ⟨served, rest, rfl, serves, ends, free⟩ :=
        ih (attempt n { s with stages := { s.stages with lastServed := n } })
      refine ⟨n :: served, rest, rfl, by simp [serveNodes, full, serves, servedAll], ends, fun before m after h => ?_⟩
      cases before with
      | nil => exact full
      | cons b before =>
        obtain ⟨rfl, tail⟩ := List.cons.inj h
        exact free before m after tail

theorem State.mem_passNodes {s : State} {n : NodePort} : n ∈ s.passNodes ↔ s.headWaits n .stages = true := by
  simp only [State.passNodes, List.mem_filter, List.mem_map, mem_nodePorts, true_and, and_iff_right_iff_imp]
  exact fun _ => ⟨n - (s.stages.lastServed + 1), by abel⟩

theorem State.passNodes_ascending (s : State) :
    s.passNodes.Pairwise fun n m => (n - (s.stages.lastServed + 1)).val < (m - (s.stages.lastServed + 1)).val := by
  refine List.Pairwise.filter _ (List.pairwise_map.mpr ?_)
  simp only [add_sub_cancel_left]
  exact List.pairwise_lt_finRange 32

/-- Settles O31: the pass serves a prefix of the waiting nodes. -/
theorem arbiterServesNodesInTurn : Obligations.ArbiterServesNodesInTurn := by
  unfold Obligations.ArbiterServesNodesInTurn
  refine ⟨fun s none => ?_, fun s owed => ?_, fun s => ⟨fun n => State.mem_passNodes, s.passNodes_ascending⟩,
    fun n s owed => ?_⟩
  · exact congrArg Host.Outcome.next (by rw [takePass, if_pos none])
  · have taken : exec .arbiterPass s = .next (serveNodes s.passNodes
        { s with stages := { s.stages with passesDue := s.stages.passesDue - 1 } }) :=
      congrArg Host.Outcome.next (by rw [takePass, if_neg owed])
    obtain ⟨served, rest, nodes, serves, ends, free⟩ := serveNodes_served s.passNodes
      { s with stages := { s.stages with passesDue := s.stages.passesDue - 1 } }
    rw [serves] at taken
    exact ⟨_, taken, served, rfl, ⟨rest, nodes, ends⟩, free⟩
  · exact congrArg Host.Outcome.next (takeAttempt_owed owed)

end Sys2Proof.Machine
end

section
/-! PROOFS. The part restart (R183): the frames of node links and disk links, and each block's own restart. -/

namespace Sys2Proof.Machine

/-! ## DONE ABORTED and DROP -/

theorem setNode_setNode (n : NodePort) (r x : NodeLink) (s : State) : (s.setNode n r).setNode n x = s.setNode n x := by
  simp [State.setNode]

theorem produceDones_node (n : NodePort) (status : Status) (l : List SlotIdx) {s : State} (up : (s.node n).state = .up) :
    l.foldl (fun s k => produceDone n (s.slot n k).tag status (s.slot n k).delivered s) s =
      s.setNode n
        { s.node n with
          out := (s.node n).out ++ l.map fun k => .done (s.slot n k).tag status (s.slot n k).delivered
          produced := (s.node n).produced || !l.isEmpty } := by
  induction l generalizing s with
  | nil =>
    rw [List.map_nil, List.append_nil, List.isEmpty_nil, Bool.not_true, Bool.or_false]
    exact (setNode_self n s).symm
  | cons k l ih =>
    have next : produceDone n (s.slot n k).tag status (s.slot n k).delivered s =
        replied n (.done (s.slot n k).tag status (s.slot n k).delivered) s := produceNode_eq_replied up _
    have node : (replied n (.done (s.slot n k).tag status (s.slot n k).delivered) s).node n =
        { s.node n with
          out := (s.node n).out ++ [.done (s.slot n k).tag status (s.slot n k).delivered], produced := true } := by
      simp [replied]
    rw [List.foldl_cons, next, ih (by rw [node]; exact up), node]
    simp [replied, setNode_setNode]

/-- The node link after DONE ABORTED for the slots in use (R88). -/
def abortedLink (dk : Desk) (r : NodeLink) : NodeLink :=
  { r with
    out := r.out ++
      (if r.state = .up then
        (slotIdxs.filter fun k => dk.slots[k.val].state != .free).map fun k =>
          .done dk.slots[k.val].tag .aborted dk.slots[k.val].delivered
      else [])
    produced := r.produced ||
      (r.state == .up && !(slotIdxs.filter fun k => dk.slots[k.val].state != .free).isEmpty) }

theorem abortedLink_of_down {dk : Desk} {r : NodeLink} (down : r.state = .down) : abortedLink dk r = r := by
  obtain ⟨state, manager, ceiling, silence, damaged, out, finishing, produced, owed⟩ := r
  subst down
  simp [abortedLink]

theorem abortNode_eq (n : NodePort) (s : State) :
    abortNode n s = s.setNode n (abortedLink (s.desk n) (s.node n)) := by
  unfold abortNode
  split
  · next down => rw [abortedLink_of_down down, setNode_self]
  · next up =>
    rw [produceDones_node n .aborted _ up, State.slotsInUse, tableFilter_eq_filter]
    simp only [abortedLink, up, if_true, beq_self_eq_true, Bool.true_and]
    rfl

theorem abortNodes_node {l : List NodePort} (once : l.Nodup) (s : State) (n : NodePort) :
    (l.foldl (fun s n => abortNode n s) s).node n =
      if n ∈ l then abortedLink (s.desk n) (s.node n) else s.node n := by
  have view := foldl_local (view := fun s n => (s.node n, s.desk n)) (f := fun s n => abortNode n s)
    (fun s i j other => by simp [abortNode_eq, State.setNode_node_ne, other])
    (fun s t i same => by
      obtain ⟨node, desk⟩ := Prod.mk.inj same
      simp [abortNode_eq, node, desk]) once s n
  refine (congrArg Prod.fst view).trans ?_
  split
  · simp [abortNode_eq]
  · rfl

theorem abortNodes_link (l : List NodePort) (s : State) :
    (l.foldl (fun s n => abortNode n s) s).link.disks = s.link.disks ∧
      (l.foldl (fun s n => abortNode n s) s).link.clock = s.link.clock :=
  ⟨foldl_keeps (fun s : State => s.link.disks) _ (fun n s => by rw [abortNode_eq]; rfl) _ _,
    foldl_keeps (fun s : State => s.link.clock) _ (fun n s => by rw [abortNode_eq]; rfl) _ _⟩

theorem dropDisk_diskLink (d e : DiskPort) (s : State) :
    (dropDisk d s).diskLink e =
      if e = d ∧ (s.disk d).state = .present then
        { s.diskLink d with out := (s.diskLink d).out ++ [.drop], produced := true }
      else s.diskLink e := by
  unfold dropDisk
  cases (s.disk d).state with
  | absent => simp
  | present =>
    by_cases same : e = d
    · subst same
      simp [produceDisk]
    · simp [produceDisk, State.setDiskLink_diskLink_ne, same]

theorem dropDisks_diskLink {l : List DiskPort} (once : l.Nodup) (s : State) (d : DiskPort) :
    (l.foldl (fun s d => dropDisk d s) s).diskLink d =
      if d ∈ l ∧ (s.disk d).state = .present then
        { s.diskLink d with out := (s.diskLink d).out ++ [.drop], produced := true }
      else s.diskLink d := by
  have disk (d e : DiskPort) (s : State) : (dropDisk d s).disk e = s.disk e := by simp [State.disk]
  have view := foldl_local (view := fun s d => (s.diskLink d, s.disk d)) (f := fun s d => dropDisk d s)
    (fun s i j other => by simp [dropDisk_diskLink, disk, other])
    (fun s t i same => by
      obtain ⟨link, record⟩ := Prod.mk.inj same
      simp [dropDisk_diskLink, disk, link, record]) once s d
  refine (congrArg Prod.fst view).trans ?_
  by_cases mem : d ∈ l <;> simp [mem, dropDisk_diskLink]

theorem dropDisks_link (l : List DiskPort) (s : State) :
    (l.foldl (fun s d => dropDisk d s) s).link.nodes = s.link.nodes ∧
      (l.foldl (fun s d => dropDisk d s) s).link.clock = s.link.clock := by
  have step (d : DiskPort) (s : State) :
      (dropDisk d s).link.nodes = s.link.nodes ∧ (dropDisk d s).link.clock = s.link.clock := by
    unfold dropDisk
    split <;> exact ⟨rfl, rfl⟩
  exact ⟨foldl_keeps (fun s : State => s.link.nodes) _ (fun s d => (step d s).1) _ _,
    foldl_keeps (fun s : State => s.link.clock) _ (fun s d => (step d s).2) _ _⟩

/-! ## The restart of every block -/

/-- A node link's own restart (R47). -/
def NodeLink.restarted (r : NodeLink) : NodeLink := { r with silence := 0, produced := false, owed := false }

/-- The state of a part restart when its frames have been produced, before the blocks restart. -/
def announced (s : State) : State :=
  diskPorts.foldl (fun s d => dropDisk d s)
    (nodePorts.foldl (fun s n => abortNode n s) { s with link := s.link.restarted })

theorem restartPart_link (s : State) : (restartPart s).link = (announced s).link := by
  simp only [restartPart, announced]

theorem announced_node (s : State) (n : NodePort) :
    (announced s).node n = abortedLink (s.desk n) (s.node n).restarted := by
  have restarted : ({ s with link := s.link.restarted } : State).node n = (s.node n).restarted := by
    simp [State.node, LinkBlock.restarted, NodeLink.restarted]
  unfold announced
  rw [State.node, (dropDisks_link ..).1, ← State.node, abortNodes_node nodePorts_nodup, if_pos (mem_nodePorts n), restarted]
  rfl

theorem announced_diskLink (s : State) (d : DiskPort) :
    (announced s).diskLink d =
      { s.diskLink d with
        silence := 0, owed := false, produced := decide ((s.disk d).state = .present),
        out := (s.diskLink d).out ++ (if (s.disk d).state = .present then [.drop] else []) } := by
  have disk : (nodePorts.foldl (fun s n => abortNode n s) { s with link := s.link.restarted }).disk d = s.disk d := by
    simp only [State.disk, (abortNodes_frame ..).2.2.2.2.2.1]
  have before : (nodePorts.foldl (fun s n => abortNode n s) { s with link := s.link.restarted }).diskLink d =
      { s.diskLink d with silence := 0, produced := false, owed := false } := by
    rw [State.diskLink, (abortNodes_link ..).1]
    simp [LinkBlock.restarted, State.diskLink]
  unfold announced
  rw [dropDisks_diskLink diskPorts_nodup, disk, before]
  by_cases present : (s.disk d).state = .present <;> simp [present]

theorem restartPart_node (s : State) (n : NodePort) :
    (restartPart s).node n = abortedLink (s.desk n) (s.node n).restarted := by
  rw [State.node, restartPart_link, ← State.node, announced_node]

theorem restartPart_diskLink (s : State) (d : DiskPort) :
    (restartPart s).diskLink d =
      { s.diskLink d with
        silence := 0, owed := false, produced := decide ((s.disk d).state = .present),
        out := (s.diskLink d).out ++ (if (s.disk d).state = .present then [.drop] else []) } := by
  rw [State.diskLink, restartPart_link, ← State.diskLink, announced_diskLink]

theorem restartPart_eq (s : State) :
    restartPart s = { s with
      link := (restartPart s).link
      admission := s.admission.restarted, lending := s.lending.restarted, loan := s.loan.restarted
      meter := s.meter.restarted, stages := s.stages.restarted, dispatch := s.dispatch.restarted
      lock := s.lock.restarted } := by
  obtain ⟨management, pending, draws⟩ := restartPart_frame s
  have blocks : (restartPart s).admission = s.admission.restarted ∧ (restartPart s).lending = s.lending.restarted ∧
      (restartPart s).loan = s.loan.restarted ∧ (restartPart s).meter = s.meter.restarted ∧
      (restartPart s).stages = s.stages.restarted ∧ (restartPart s).dispatch = s.dispatch.restarted ∧
      (restartPart s).lock = s.lock.restarted := by simp [restartPart]
  generalize restartPart s = t at *
  cases t
  simp only at management pending draws blocks
  simp only [management, pending, draws, blocks]

theorem restartPart_clock (s : State) : (restartPart s).link.clock.expiries = 0 := by
  rw [restartPart_link, announced, (dropDisks_link ..).2, (abortNodes_link ..).2]
  rfl

/-- What a part restart leaves of a node link, and of the reply's port. -/
theorem restartPart_replied (h : ManageHeader) (s : State) (n : NodePort) :
    ((replied h.port (.manageReply h.tag 7 .ok 0 0 []) (restartPart (heard h s))).node n).state = (s.node n).state ∧
      ((replied h.port (.manageReply h.tag 7 .ok 0 0 []) (restartPart (heard h s))).node n).manager = (s.node n).manager ∧
      ((replied h.port (.manageReply h.tag 7 .ok 0 0 []) (restartPart (heard h s))).node n).ceiling = (s.node n).ceiling ∧
      ((replied h.port (.manageReply h.tag 7 .ok 0 0 []) (restartPart (heard h s))).node n).damaged = (s.node n).damaged ∧
      ((replied h.port (.manageReply h.tag 7 .ok 0 0 []) (restartPart (heard h s))).node n).silence = 0 ∧
      ((replied h.port (.manageReply h.tag 7 .ok 0 0 []) (restartPart (heard h s))).node n).out = (s.node n).out ++
        (if (s.node n).state = .up then
          (slotIdxs.filter fun k => (s.slot n k).state != .free).map fun k =>
            .done (s.slot n k).tag .aborted (s.slot n k).delivered
        else []) ++
        (if n = h.port then [.manageReply h.tag 7 .ok 0 0 []] else []) := by
  have desk (n : NodePort) : (heard h s).desk n = s.desk n := by simp [State.desk]
  have link (n : NodePort) : (restartPart (heard h s)).node n = abortedLink (s.desk n) ((heard h s).node n).restarted := by
    rw [restartPart_node, desk]
  rw [replied, State.setNode_node_eq, link, link, heard_node h s n, heard_node h s h.port]
  by_cases port : n = h.port
  · subst port
    rw [if_pos rfl, if_pos rfl]
    exact ⟨rfl, rfl, rfl, rfl, rfl, rfl⟩
  · rw [if_neg port, if_neg port, List.append_nil]
    exact ⟨rfl, rfl, rfl, rfl, rfl, rfl⟩

/-- Settles O59, block by block. -/
theorem restartPartEndsAllWork : Obligations.RestartPartEndsAllWork := by
  unfold Obligations.RestartPartEndsAllWork
  intro h s managed
  have up : ((restartPart (heard h s)).node h.port).state = .up := by
    rw [restartPart_node]
    exact heard_up managed
  have taken : exec (.restartPart h) s =
      .next (replied h.port (.manageReply h.tag 7 .ok 0 0 []) (restartPart (heard h s))) :=
    congrArg Host.Outcome.next (manageOp_eq_replied (serve := fun s => (restartPart s, .ok))
      (t := restartPart (heard h s)) managed rfl up 7)
  refine ⟨_, taken, restartPart_replied h s, fun d => ?_, ?_⟩
  · rw [replied, State.setNode_diskLink, restartPart_diskLink, heard_disk, State.diskLink, (heard_frame h s).2.2.2.2.2.2.2, ← State.diskLink]
  · obtain ⟨admission, lending, loan, meter, stages, dispatch, lock, -⟩ := heard_frame h s
    have clock := restartPart_clock (heard h s)
    have management : (restartPart (heard h s)).management = s.management :=
      (restartPart_frame _).1.trans (by unfold heard; split <;> rfl)
    have blocks := restartPart_eq (heard h s)
    rw [admission, lending, loan, meter, stages, dispatch, lock] at blocks
    generalize restartPart (heard h s) = t at *
    cases t
    simp only [State.mk.injEq] at blocks
    obtain ⟨-, rfl, rfl, rfl, rfl, rfl, rfl, rfl, -⟩ := blocks
    simp only [replied, State.slot, State.desk, State.volume, State.loanAt, State.meterOf, State.stage, State.disk,
      State.lockAt, State.retryCount, State.setNode, AdmissionBlock.restarted, LendingBlock.restarted,
      LoanBlock.restarted, MeterBlock.restarted, StageBlock.restarted, DispatchBlock.restarted, LockBlock.restarted,
      tableMap_getElem]
    simp [Slot.freed, Loan.restarted, Meter.restarted, Stage.freed, Lock.freed, Clock.restarted]
    exact ⟨fun _ => rfl, management, clock⟩

end Sys2Proof.Machine
end

section
/-! PROOFS. Scans of the lending map (R13, R14, R18, R20, R21) and translation (R15, R16). -/

namespace Sys2Proof.Machine

/-! ## What touches the map, node links and notices alone -/

/-- Nothing but the map, node links and the management block differs. -/
def OnMap (s t : State) : Prop :=
  t = { s with
    link := { s.link with nodes := t.link.nodes }, lending := { s.lending with map := t.lending.map }
    management := t.management }

section
variable {s t u : State}

theorem OnMap.refl (s : State) : OnMap s s := rfl

theorem OnMap.trans (first : OnMap s t) (second : OnMap t u) : OnMap s u := by
  unfold OnMap at *
  rw [second, first]

theorem raiseFlag_onMap (f : Flag) (x : Nat) (s : State) : OnMap s (raiseFlag f x s) := by
  have lending : (raiseFlag f x s).lending = s.lending := by simp
  unfold OnMap
  rw [lending]
  exact raiseFlag_eq f x s

theorem raiseFlag_mapEntry (f : Flag) (x : Nat) (s : State) (i : MapIdx) : (raiseFlag f x s).mapEntry i = s.mapEntry i := by
  simp [State.mapEntry]

/-! ## One read -/

theorem readMapEntry_onMap (i : MapIdx) (s : State) : OnMap s (readMapEntry i s) := by
  have written (e : MapEntry) : OnMap s (s.setMapEntry i e) := rfl
  rcases readMapEntry_cases i s with ⟨-, read⟩ | ⟨original, -, read⟩ | ⟨-, read⟩ <;> rw [read]
  · exact written _
  · exact (written _).trans (raiseFlag_onMap ..)
  · exact written _

theorem readMapEntry_mapEntry (i j : MapIdx) (s : State) :
    (readMapEntry i s).mapEntry j = if j = i then (s.mapEntry i).afterRead else s.mapEntry j := by
  unfold readMapEntry
  dsimp only
  split
  · rw [raiseFlag_mapEntry, State.setMapEntry_mapEntry_eq]
  · rw [State.setMapEntry_mapEntry_eq]

theorem MapEntry.afterRead_of_lost {e : MapEntry} (lost : e.condition = .lost) :
    e.afterRead = { e with outcome := .uncorrectable } := by
  simp only [MapEntry.afterRead, lost]

theorem MapEntry.afterRead_of_kept {e : MapEntry} (kept : e.condition ≠ .lost) : e.afterRead = e.scrubbed := by
  unfold MapEntry.afterRead MapEntry.scrubbed MapEntry.readFields
  cases condition : e.condition with
  | intact => simp
  | recoverable original => simp
  | lost => exact absurd condition kept

/-- A read of an intact entry or a lost one leaves the management block. -/
theorem readMapEntry_management {i : MapIdx}
    (condition : (s.mapEntry i).condition = .intact ∨ (s.mapEntry i).condition = .lost) :
    (readMapEntry i s).management = s.management := by
  rcases readMapEntry_cases i s with ⟨-, read⟩ | ⟨original, recoverable, -⟩ | ⟨-, read⟩
  · rw [read]; rfl
  · rw [recoverable] at condition; simp at condition
  · rw [read]; rfl

/-- A CORRECTED read raises MAP_CORRECTED with its index (R18). -/
theorem readMapEntry_corrected {i : MapIdx} (disturbed : (s.mapEntry i).condition ≠ .intact)
    (kept : (s.mapEntry i).condition ≠ .lost) :
    (readMapEntry i s).flagSet .mapCorrected = true ∧ (readMapEntry i s).management.mapCorrectedDetail = i.val := by
  rcases readMapEntry_cases i s with ⟨intact, -⟩ | ⟨original, -, read⟩ | ⟨lost, -⟩
  · exact absurd intact disturbed
  · rw [read]
    exact ⟨raiseFlag_flagSet_self .., by rw [raiseFlag_management]; rfl⟩
  · exact absurd lost kept

theorem readMapEntry_flagSet {h : Flag} (other : h ≠ .mapCorrected) (i : MapIdx) (s : State) :
    (readMapEntry i s).flagSet h = s.flagSet h := by
  rcases readMapEntry_cases i s with ⟨-, read⟩ | ⟨original, -, read⟩ | ⟨-, read⟩ <;> rw [read]
  · rfl
  · rw [raiseFlag_flagSet, decide_eq_false other, Bool.or_false]
    rfl
  · rfl

theorem readMapEntry_mapLossDetail (i : MapIdx) (s : State) :
    (readMapEntry i s).management.mapLossDetail = s.management.mapLossDetail := by
  rcases readMapEntry_cases i s with ⟨-, read⟩ | ⟨original, -, read⟩ | ⟨-, read⟩ <;> rw [read]
  · rfl
  · rw [raiseFlag_management]
    rfl
  · rfl

/-! ## The reads of a range -/

/-- The entries f to f + m - 1 have been read, in ascending order. -/
def readRange (f : Nat) : Nat → State → State
  | 0, s => s
  | m + 1, s => if h : f + m < 4096 then readMapEntry ⟨f + m, h⟩ (readRange f m s) else readRange f m s

theorem readRange_onMap (f m : Nat) (s : State) : OnMap s (readRange f m s) := by
  induction m with
  | zero => rfl
  | succ m ih =>
    unfold readRange
    split
    · exact ih.trans (readMapEntry_onMap ..)
    · exact ih

theorem readRange_flagSet (f m : Nat) (s : State) {h : Flag} (other : h ≠ .mapCorrected) :
    (readRange f m s).flagSet h = s.flagSet h := by
  induction m with
  | zero => rfl
  | succ m ih =>
    unfold readRange
    split
    · rw [readMapEntry_flagSet other, ih]
    · exact ih

theorem readRange_mapLossDetail (f m : Nat) (s : State) :
    (readRange f m s).management.mapLossDetail = s.management.mapLossDetail := by
  induction m with
  | zero => rfl
  | succ m ih =>
    unfold readRange
    split
    · rw [readMapEntry_mapLossDetail, ih]
    · exact ih

variable {f m : Nat}

section
variable (kept : ∀ j : MapIdx, f ≤ j.val → j.val < f + m → (s.mapEntry j).condition ≠ .lost)
include kept

theorem readRange_mapEntry (j : MapIdx) :
    (readRange f m s).mapEntry j = if f ≤ j.val ∧ j.val < f + m then (s.mapEntry j).scrubbed else s.mapEntry j := by
  induction m generalizing j with
  | zero => exact (if_neg (by omega)).symm
  | succ m ih =>
    have before := ih fun j low high => kept j low (by omega)
    have bound := j.isLt
    unfold readRange
    split
    · next range =>
      have unread := before ⟨f + m, range⟩
      rw [if_neg (by simp)] at unread
      rw [readMapEntry_mapEntry, unread]
      by_cases here : j = ⟨f + m, range⟩
      · subst here
        rw [if_pos rfl, MapEntry.afterRead_of_kept (kept _ (by simp) (by simp)), if_pos ⟨by simp, by simp⟩]
      · rw [if_neg here, before]
        have : j.val ≠ f + m := fun h => here (Fin.ext h)
        exact if_congr (by omega) rfl rfl
    · rw [before]
      exact if_congr (by omega) rfl rfl

/-- An entry behind the range stands as it stood. -/
theorem readRange_next {i : MapIdx} (next : i.val = f + m) : (readRange f m s).mapEntry i = s.mapEntry i := by
  rw [readRange_mapEntry kept, if_neg (by omega)]

theorem readRange_management (intact : ∀ j : MapIdx, f ≤ j.val → j.val < f + m → (s.mapEntry j).condition = .intact) :
    (readRange f m s).management = s.management := by
  induction m with
  | zero => rfl
  | succ m ih =>
    have before := ih (fun j low high => kept j low (by omega)) fun j low high => intact j low (by omega)
    unfold readRange
    split
    · next range =>
      have unread := readRange_next (i := ⟨f + m, range⟩) (fun j low high => kept j low (by omega)) rfl
      rw [readMapEntry_management (.inl ?_), before]
      rw [unread]
      exact intact _ (by simp) (by simp)
    · exact before

/-- The last CORRECTED read of the range leaves its index as the detail (R18). -/
theorem readRange_corrected {j : MapIdx} (low : f ≤ j.val) (high : j.val < f + m)
    (disturbed : (s.mapEntry j).condition ≠ .intact) :
    (readRange f m s).flagSet .mapCorrected = true ∧
      ((∀ l : MapIdx, j.val < l.val → l.val < f + m → (s.mapEntry l).condition = .intact) →
        (readRange f m s).management.mapCorrectedDetail = j.val) := by
  induction m with
  | zero => omega
  | succ m ih =>
    have bound := j.isLt
    have kept' : ∀ j : MapIdx, f ≤ j.val → j.val < f + m → (s.mapEntry j).condition ≠ .lost :=
      fun j low high => kept j low (by omega)
    unfold readRange
    split
    · next range =>
      have unread := readRange_next (i := ⟨f + m, range⟩) kept' rfl
      by_cases intact : (s.mapEntry ⟨f + m, range⟩).condition = .intact
      · have earlier : j.val ≠ f + m := fun here => disturbed (by rwa [show j = ⟨f + m, range⟩ from Fin.ext here])
        obtain ⟨set, detail⟩ := ih kept' (by omega)
        have same := readMapEntry_management (s := readRange f m s) (i := ⟨f + m, range⟩)
          (.inl (by rw [unread]; exact intact))
        refine ⟨by rw [State.flagSet, same]; exact set, fun last => ?_⟩
        rw [same]
        exact detail fun l after high => last l after (by omega)
      · have corrected := readMapEntry_corrected (s := readRange f m s) (i := ⟨f + m, range⟩)
          (by rwa [unread]) (by rw [unread]; exact kept _ (by simp) (by simp))
        refine ⟨corrected.1, fun last => ?_⟩
        have here : j.val = f + m := by
          by_contra earlier
          exact intact (last ⟨f + m, range⟩ (by simp; omega) (by simp))
        rw [here]
        exact corrected.2
    · obtain ⟨set, detail⟩ := ih kept' (by omega)
      exact ⟨set, fun last => detail fun l after high => last l after (by omega)⟩

theorem readRange_notified : CorrectedNotified f m s (readRange f m s) := by
  refine ⟨fun j low high disturbed => readRange_corrected kept low high disturbed, fun intact => ?_⟩
  have same := readRange_management kept intact
  exact ⟨by rw [State.flagSet, same]; rfl, by rw [same]⟩

end

/-! ## Scans -/

/-- A scan goes on behind entries that read CLEAN or CORRECTED and do not cover the granule. -/
theorem scanMap_skips {kind : ReqKind} {v : Volume} {g k : Nat} (le : m ≤ k)
    (skipped : ∀ j : MapIdx, f ≤ j.val → j.val < f + m →
      (s.mapEntry j).condition ≠ .lost ∧ (s.mapEntry j).readFields.covers v g = false) :
    scanMap kind v g k f s = scanMap kind v g (k - m) (f + m) (readRange f m s) := by
  induction m with
  | zero => rfl
  | succ m ih =>
    have before := ih (by omega) fun j low high => skipped j low (by omega)
    obtain ⟨n, count⟩ : ∃ n, k - m = n + 1 := ⟨k - m - 1, by omega⟩
    rw [before, count, show k - (m + 1) = n by omega]
    by_cases range : f + m < 4096
    · have unread := readRange_next (i := ⟨f + m, range⟩) (fun j low high => (skipped j low (by omega)).1) rfl
      obtain ⟨kept, beside⟩ := skipped ⟨f + m, range⟩ (by simp) (by simp)
      rw [scanMap, dif_pos range, unread, if_neg ?_, readMapEntry_mapEntry, if_pos rfl, unread,
        MapEntry.afterRead_of_kept kept, if_neg (by rw [MapEntry.scrubbed, beside]; simp), readRange, dif_pos range]
      · rfl
      · unfold MapEntry.yields
        cases condition : (s.mapEntry ⟨f + m, range⟩).condition with
        | intact => simp
        | recoverable original => simp
        | lost => exact absurd condition kept
    · rw [readRange, dif_neg range, scanMap, dif_neg range]
      cases n with
      | zero => rfl
      | succ n => rw [scanMap, dif_neg (by omega)]

theorem scanMap_ends {kind : ReqKind} {v : Volume} {g k i : Nat} (ends : k = 0 ∨ 4096 ≤ i) (s : State) :
    scanMap kind v g k i s = (s, .error .range) := by
  cases k with
  | zero => rfl
  | succ k => rw [scanMap, dif_neg (by omega)]

theorem scanMap_lost {kind : ReqKind} {v : Volume} {g k : Nat} (pos : 0 < k) {i : MapIdx}
    (lost : (s.mapEntry i).condition = .lost) :
    scanMap kind v g k i.val s = (raiseMapFault kind i.val (readMapEntry i s), .error .mapFault) := by
  obtain ⟨k, rfl⟩ : ∃ n, k = n + 1 := ⟨k - 1, by omega⟩
  rw [scanMap, dif_pos i.isLt]
  exact if_pos (by simp only [MapEntry.yields, lost])

theorem scanMap_match {kind : ReqKind} {v : Volume} {g k : Nat} (pos : 0 < k) {i : MapIdx}
    (kept : (s.mapEntry i).condition ≠ .lost) (covers : (s.mapEntry i).readFields.covers v g = true) :
    scanMap kind v g k i.val s = (readMapEntry i s, .ok (s.mapEntry i).readFields) := by
  obtain ⟨k, rfl⟩ : ∃ n, k = n + 1 := ⟨k - 1, by omega⟩
  have stored : ((readMapEntry i s).mapEntry i).stored = (s.mapEntry i).readFields := by
    rw [readMapEntry_mapEntry, if_pos rfl, MapEntry.afterRead_of_kept kept]
    rfl
  have yields : (s.mapEntry i).yields ≠ .uncorrectable := by
    unfold MapEntry.yields
    cases condition : (s.mapEntry i).condition with
    | intact => simp
    | recoverable original => simp
    | lost => exact absurd condition kept
  rw [scanMap, dif_pos i.isLt]
  refine (if_neg yields).trans ((if_pos (by rw [stored]; exact covers)).trans ?_)
  rw [stored]

/-- MAP_FAULT and, for the write kinds, MAP_LOSS after a scan that an unrecoverable entry ended (R20, R21). -/
theorem raiseMapFault_notified (kind : ReqKind) (i : Nat) (s : State) :
    (raiseMapFault kind i s).flagSet .mapFault = true ∧ (raiseMapFault kind i s).management.mapFaultDetail = i ∧
      (kind.isWrite = true → (raiseMapFault kind i s).flagSet .mapLoss = true ∧
        (raiseMapFault kind i s).management.mapLossDetail = i) ∧
      (kind.isWrite = false → (raiseMapFault kind i s).flagSet .mapLoss = s.flagSet .mapLoss ∧
        (raiseMapFault kind i s).management.mapLossDetail = s.management.mapLossDetail) ∧
      (raiseMapFault kind i s).management.mapCorrectedDetail = s.management.mapCorrectedDetail ∧
      (∀ h, h ≠ .mapFault → h ≠ .mapLoss → (raiseMapFault kind i s).flagSet h = s.flagSet h) ∧
      OnMap s (raiseMapFault kind i s) := by
  unfold raiseMapFault
  cases kind.isWrite
  · simp only [Bool.false_eq_true, if_false, false_imp_iff, true_imp_iff, true_and, raiseFlag_management,
      raiseFlag_flagSet]
    exact ⟨by simp, rfl, ⟨by simp, rfl⟩, rfl, fun h fault _ => by simp [fault], raiseFlag_onMap ..⟩
  · simp only [if_true, reduceCtorEq, false_imp_iff, true_imp_iff, true_and, raiseFlag_flagSet]
    refine ⟨by simp, ?_, ⟨by simp, ?_⟩, ?_, fun h fault loss => by simp [fault, loss],
      (raiseFlag_onMap ..).trans (raiseFlag_onMap ..)⟩
    · rw [raiseFlag_management]
      refine (congrArg ManagementBlock.mapFaultDetail (raiseFlag_management .mapFault i s)).trans ?_
      rfl
    · rw [raiseFlag_management]
      rfl
    · rw [raiseFlag_management]
      refine (congrArg ManagementBlock.mapCorrectedDetail (raiseFlag_management .mapFault i s)).trans ?_
      rfl

/-! ## Translation (R15, R16) -/

theorem translateCut_of_error {kind : ReqKind} {v : Volume} {c : Cut} {s' : State} {status : Status}
    (scan : scanMap kind v c.granule (s.volume v).extents (s.volume v).first.val s = (s', .error status)) :
    translateCut kind v c s = (s', .error status) := by
  simp only [translateCut, scan]

theorem translateCut_of_match {kind : ReqKind} {v : Volume} {c : Cut} {s' : State} {e : Extent}
    (scan : scanMap kind v c.granule (s.volume v).extents (s.volume v).first.val s = (s', .ok e)) :
    translateCut kind v c s =
      (s',
        if (s.disk (e.diskOf c.granule)).state = .absent then .error .diskLost
        else if (s.disk (e.diskOf c.granule)).capacity ≤ e.diskGranuleOf c.granule then .error .range
        else
          .ok { granule := c.granule, first := c.first, count := c.count, disk := e.diskOf c.granule,
                diskGranule := e.diskGranuleOf c.granule }) := by
  have dispatch : s'.dispatch = s.dispatch := by
    have := (scanMap_frame kind v c.granule (s.volume v).extents (s.volume v).first.val s).2.2.2.2.1
    rwa [scan] at this
  have disk (d : DiskPort) : s'.disk d = s.disk d := by rw [State.disk, dispatch]; rfl
  simp only [translateCut, scan, checkDisk, disk]
  cases state : (s.disk (e.diskOf c.granule)).state with
  | absent => simp
  | present =>
    by_cases beyond : (s.disk (e.diskOf c.granule)).capacity ≤ e.diskGranuleOf c.granule
    · simp [beyond, not_lt.mpr beyond]
    · simp [beyond, not_le.mp beyond]

theorem translateAll_of_failing {kind : ReqKind} {v : Volume} {before after : List Cut} {c : Cut} {s1 s2 : State}
    {ps : List Piece} {status : Status} (done : translateAll kind v before s = (s1, .ok ps))
    (fails : translateCut kind v c s1 = (s2, .error status)) :
    translateAll kind v (before ++ c :: after) s = (s2, .error status) := by
  induction before generalizing s ps with
  | nil =>
    obtain ⟨rfl, -⟩ := Prod.mk.inj done
    simp only [List.nil_append, translateAll, fails]
  | cons b before ih =>
    simp only [List.cons_append, translateAll] at done ⊢
    split at done
    · cases done
    · next u p cut =>
      split at done
      · cases done
      · next u' qs rest =>
        obtain ⟨rfl, -⟩ := Prod.mk.inj done
        simp only [ih rest]

/-- Settles O27: the entries behind which a scan goes on are the range it reads. -/
theorem scansEndAtTheFirstMatch : Obligations.ScansEndAtTheFirstMatch := by
  unfold Obligations.ScansEndAtTheFirstMatch
  refine ⟨fun kind v g f m k s skipped => ⟨fun ends le _ => ?_, fun i next lt lost => ?_⟩,
    fun kind v g f m k s i next lt skipped kept covers => ?_,
    fun kind v c s s' => ⟨fun status => translateCut_of_error, fun e => translateCut_of_match⟩,
    fun kind v before after c s s1 s2 ps status => translateAll_of_failing⟩
  · have kept := fun j low high => (skipped j low high).1
    rw [scanMap_skips le skipped, scanMap_ends (by omega)]
    exact ⟨rfl, readRange_mapEntry kept, readRange_notified kept, fun h other => readRange_flagSet f m s other,
      readRange_onMap f m s⟩
  · have kept := fun j low high => (skipped j low high).1
    have unread := readRange_next kept next
    have lostHere : ((readRange f m s).mapEntry i).condition = .lost := by rw [unread]; exact lost
    have management := readMapEntry_management (s := readRange f m s) (.inr lostHere)
    rw [scanMap_skips lt.le skipped, ← next, scanMap_lost (by omega) lostHere]
    obtain ⟨fault, faultDetail, loss, noLoss, correctedDetail, flags, onMap⟩ :=
      raiseMapFault_notified kind i.val (readMapEntry i (readRange f m s))
    have corrected : (raiseMapFault kind i.val (readMapEntry i (readRange f m s))).flagSet .mapCorrected =
        (readRange f m s).flagSet .mapCorrected := by
      rw [flags _ (by simp) (by simp), State.flagSet, management]
      rfl
    rw [management] at correctedDetail noLoss
    refine ⟨rfl, fun j => ?_, ?_, fault, faultDetail, loss, fun read => ?_, fun h other noFault noLoss => ?_,
      ((readRange_onMap f m s).trans (readMapEntry_onMap ..)).trans onMap⟩
    · have entry : (raiseMapFault kind i.val (readMapEntry i (readRange f m s))).mapEntry j =
          (readMapEntry i (readRange f m s)).mapEntry j := by simp [State.mapEntry]
      rw [entry, readMapEntry_mapEntry, unread, MapEntry.afterRead_of_lost lost, readRange_mapEntry kept]
      by_cases here : j = i
      · subst here
        rw [if_pos rfl, if_neg (by omega), if_pos rfl]
      · rw [if_neg here, if_neg here, next]
    · obtain ⟨disturbed, intact⟩ := readRange_notified kept
      unfold CorrectedNotified
      rw [corrected, correctedDetail]
      exact ⟨disturbed, intact⟩
    · obtain ⟨set, detail⟩ := noLoss read
      exact ⟨set.trans ((readMapEntry_flagSet (by simp) ..).trans (readRange_flagSet f m s (by simp))),
        detail.trans (readRange_mapLossDetail f m s)⟩
    · rw [flags h noFault noLoss, readMapEntry_flagSet other, readRange_flagSet f m s other]
  · have kept := fun j low high => (skipped j low high).1
    have unread := readRange_next kept next
    have keptAll : ∀ j : MapIdx, f ≤ j.val → j.val < f + (m + 1) → (s.mapEntry j).condition ≠ .lost := by
      intro j low high
      by_cases here : j = i
      · subst here; assumption
      · have : j.val ≠ i.val := fun h => here (Fin.ext h)
        exact kept j low (by omega)
    have reads : readMapEntry i (readRange f m s) = readRange f (m + 1) s := by
      rw [readRange, dif_pos (by omega)]
      congr 1
      exact Fin.ext next
    have scan : scanMap kind v g k f s = (readRange f (m + 1) s, .ok (s.mapEntry i).readFields) := by
      rw [scanMap_skips lt.le skipped, ← next, scanMap_match (by omega) (by rwa [unread]) (by rwa [unread]), unread,
        reads]
    rw [scan]
    obtain ⟨disturbed, -⟩ := readRange_notified keptAll
    refine ⟨rfl, fun j => ?_, fun j low high not => ?_, fun intact => ?_⟩
    · rw [readRange_mapEntry keptAll]
      exact if_congr (by omega) rfl rfl
    · obtain ⟨set, detail⟩ := disturbed j low (by omega) not
      exact ⟨set, fun last => detail fun l after high => last l after (by omega)⟩
    · exact readRange_management keptAll fun j low high => intact j low (by omega)

end

end Sys2Proof.Machine
end

section
/-! PROOFS. The checks of an admission attempt (R28, R155, R158), retry counts and claims (R163, R164), and the lock of
an admitted LOCKREAD (R156, R158). -/

namespace Sys2Proof.Machine

/-! ## Node links that only gain frames (R59) -/

theorem MoreFrames.refl (r : NodeLink) : MoreFrames r r := ⟨[], by simp⟩

theorem MoreFrames.trans {r x y : NodeLink} (first : MoreFrames r x) (second : MoreFrames x y) : MoreFrames r y := by
  obtain ⟨a, first⟩ := first
  obtain ⟨b, second⟩ := second
  refine ⟨a ++ b, ?_⟩
  rw [second, first]
  simp

theorem MoreFrames.state {r x : NodeLink} (more : MoreFrames r x) : x.state = r.state := by
  obtain ⟨a, h⟩ := more
  rw [h]

theorem MoreFrames.owed {r x : NodeLink} (more : MoreFrames r x) : x.owed = r.owed := by
  obtain ⟨a, h⟩ := more
  rw [h]

theorem moreFrames_produced (r : NodeLink) (frames : List NodeFrame) (p : Bool) :
    MoreFrames r { r with out := r.out ++ frames, produced := p } := ⟨frames, rfl⟩

theorem raiseFlag_moreFrames (f : Flag) (x : Nat) (s : State) (n : NodePort) :
    MoreFrames (s.node n) ((raiseFlag f x s).node n) := by
  rw [raiseFlag_node]
  split
  · unfold State.noticed
    split
    · exact moreFrames_produced ..
    · exact .refl _
  · exact .refl _

theorem activateClaim_moreFrames (c : Claim) (s : State) (n : NodePort) :
    MoreFrames (s.node n) ((activateClaim c s).node n) := by
  have more := raiseFlag_moreFrames .lockout 0
    { s with lock := { s.lock with active := some { claim := c, timer := s.settings.lockoutTime } } } n
  exact more

theorem handOff_moreFrames (s : State) (n : NodePort) : MoreFrames (s.node n) ((handOff s).node n) := by
  unfold handOff
  split
  · exact .refl _
  · next c rest _ => exact activateClaim_moreFrames c { s with lock := { s.lock with pendingClaims := rest } } n

theorem produceNode_moreFrames (n : NodePort) (f : NodeFrame) (s : State) (m : NodePort) :
    MoreFrames (s.node m) ((produceNode n f s).node m) := by
  rw [produceNode_node]
  split
  · next h => subst h; exact moreFrames_produced ..
  · exact .refl _

variable {s : State} {n : NodePort} {v : Volume} {g : Nat}

/-! ## The loan check (R27, R28) -/

theorem State.pairEntry_eq_none
    (none : ∀ i, (s.loanAt i).state ≠ .free → ¬((s.loanAt i).volume = v ∧ (s.loanAt i).node = n)) :
    s.pairEntry v n = .none := by
  rw [State.pairEntry, tableFind_eq_none]
  intro i
  simpa [Loan.ofPair, State.loanAt] using none i

theorem State.pairEntry_eq_some {i : LoanIdx} (used : (s.loanAt i).state ≠ .free) (volume : (s.loanAt i).volume = v)
    (node : (s.loanAt i).node = n)
    (only : ∀ j, (s.loanAt j).state ≠ .free → (s.loanAt j).volume = v → (s.loanAt j).node = n → j = i) :
    s.pairEntry v n = some i := by
  have ofPair (j : LoanIdx) : (s.loan.loans[j.val].state != .free && s.loan.loans[j.val].ofPair v n) = true ↔
      (s.loanAt j).state ≠ .free ∧ (s.loanAt j).volume = v ∧ (s.loanAt j).node = n := by
    simp [Loan.ofPair, State.loanAt]
  rw [State.pairEntry, tableFind_eq_some]
  refine ⟨(ofPair i).mpr ⟨used, volume, node⟩, fun j lower => ?_⟩
  rw [Bool.eq_false_iff]
  intro here
  obtain ⟨used, volume, node⟩ := (ofPair j).mp here
  exact absurd (only j used volume node) lower.ne

theorem LoanMode.permits_iff (m : LoanMode) (kind : ReqKind) :
    m.permits kind = true ↔
      kind = .read ∨ m = .write ∧ kind = .write ∨ m = .sharedUpdate ∧ (kind = .lockread ∨ kind = .unlockwrite) := by
  cases m <;> cases kind <;> simp [LoanMode.permits]

/-! ## The lock check (R155, R158) -/

/-- Entry j is HELD on granule g of volume v. -/
def State.lockNamed (s : State) (v : Volume) (g : Nat) (j : LockIdx) : Prop :=
  (s.lockAt j).state = .held ∧ (s.lockAt j).volume = v ∧ (s.lockAt j).granule = g

theorem State.lockNamed_iff {j : LockIdx} :
    (s.lock.locks[j.val].state == .held && s.lock.locks[j.val].volume == v && s.lock.locks[j.val].granule == g) = true ↔
      s.lockNamed v g j := by
  simp [State.lockNamed, State.lockAt, and_assoc]

theorem State.lockOn_eq_some {j : LockIdx} (named : s.lockNamed v g j) (only : ∀ l, s.lockNamed v g l → l = j) :
    s.lockOn v g = some j := by
  rw [State.lockOn, tableFind_eq_some]
  refine ⟨State.lockNamed_iff.mpr named, fun l lower => ?_⟩
  rw [Bool.eq_false_iff]
  exact fun here => absurd (only l (State.lockNamed_iff.mp here)) lower.ne

theorem State.lockOn_eq_none (none : ∀ j, ¬s.lockNamed v g j) : s.lockOn v g = .none := by
  rw [State.lockOn, tableFind_eq_none]
  intro j
  rw [Bool.eq_false_iff]
  exact fun here => none j (State.lockNamed_iff.mp here)

theorem lockChecks_of_named {j : LockIdx} (named : s.lockNamed v g j) (only : ∀ l, s.lockNamed v g l → l = j)
    (n : NodePort) :
    lockCheck .lockread n v g s = some (if (s.lockAt j).holder = n then .lockHeld else .retry) ∧
      lockCheck .unlockwrite n v g s = if (s.lockAt j).holder = n then none else some .lockLost := by
  simp only [lockCheck, lockreadCheck, unlockwriteCheck, State.lockOn_eq_some named only]
  exact ⟨by split <;> rfl, trivial⟩

theorem lockChecks_of_unnamed (unnamed : ∀ j, ¬s.lockNamed v g j) (n : NodePort) :
    lockCheck .unlockwrite n v g s = some .lockLost ∧
      ((∃ a, s.lock.active = some a ∧ a.claim.volume = v ∧ a.claim.granule = g ∧ a.claim.node ≠ n) ∨
        (∀ j, (s.lockAt j).state ≠ .free) → lockCheck .lockread n v g s = some .retry) ∧
      ((∀ a, s.lock.active = some a → ¬(a.claim.volume = v ∧ a.claim.granule = g ∧ a.claim.node ≠ n)) →
        (∃ j, (s.lockAt j).state = .free) → lockCheck .lockread n v g s = none) := by
  have claimed : s.lock.active.any (fun a => a.claim.volume == v && a.claim.granule == g && a.claim.node != n) = true ↔
      ∃ a, s.lock.active = some a ∧ a.claim.volume = v ∧ a.claim.granule = g ∧ a.claim.node ≠ n := by
    rw [Option.any_eq_true]
    simp [and_assoc]
  have free : tableAny s.lock.locks (·.state == .free) = true ↔ ∃ j, (s.lockAt j).state = .free := by
    rw [tableAny_iff]
    simp [State.lockAt]
  simp only [lockCheck, lockreadCheck, unlockwriteCheck, State.lockOn_eq_none unnamed, claimed, free, true_and]
  refine ⟨fun refused => ?_, fun unclaimed room => ?_⟩
  · split
    · rfl
    · next not => rw [if_neg fun ⟨j, empty⟩ => refused.resolve_left not j empty]
  · rw [if_neg fun ⟨a, active, here⟩ => unclaimed a active here, if_pos room]

/-! ## Retry counts and claims (R163, R164) -/

section
variable {c : Claim}
  (judged : ¬(s.retryCount c.node < max 1 s.settings.lockoutLimit ∨ (s.volume c.volume).lockoutEnable = false))
include judged

theorem judgeClaim_of_idle (idle : s.lock.active = none) : judgeClaim c s = activateClaim c s := by
  rw [judgeClaim, if_neg judged]
  simp only [idle]

theorem judgeClaim_of_active {a : ActiveClaim} (active : s.lock.active = some a) :
    judgeClaim c s =
      if a.claim.node = c.node ∨ (∃ x ∈ s.lock.pendingClaims, x.node = c.node) ∨ 4 ≤ s.lock.pendingClaims.length then s
      else { s with lock := { s.lock with pendingClaims := s.lock.pendingClaims ++ [c] } } := by
  have member : (s.lock.pendingClaims.any fun x => x.node == c.node) = true ↔
      ∃ x ∈ s.lock.pendingClaims, x.node = c.node := by simp
  rw [judgeClaim, if_neg judged]
  simp only [active, member]

end

/-- A counted RETRY is judged for a claim. -/
theorem countRetry_retryCounted (n : NodePort) (v : Volume) (g : Nat) (s : State) :
    RetryCounted { node := n, volume := v, granule := g } s (countRetry n v g s) := by
  obtain ⟨u, counted⟩ : ∃ u, u = s.setRetry n (min 15 (s.retryCount n + 1)) := ⟨_, rfl⟩
  have count (m : NodePort) : u.retryCount m = if m = n then min 15 (s.retryCount m + 1) else s.retryCount m := by
    rw [counted, State.setRetry_retryCount_eq]
    split
    · next h => subst h; rfl
    · rfl
  have limit : (u.retryCount n < max 1 u.settings.lockoutLimit ∨ (u.volume v).lockoutEnable = false) ↔
      min 15 (s.retryCount n + 1) < s.settings.lockoutLimit ∨ (s.volume v).lockoutEnable = false := by
    rw [count, if_pos rfl, counted]
    exact or_congr_left (by change _ < max 1 s.settings.lockoutLimit ↔ _; omega)
  have onLocks : OnLocks s u := by rw [counted]; rfl
  have nodes (m : NodePort) : u.node m = s.node m := by rw [counted]; rfl
  have active : u.lock.active = s.lock.active := by rw [counted]; rfl
  have pending : u.lock.pendingClaims = s.lock.pendingClaims := by rw [counted]; rfl
  have locks : u.lock.locks = s.lock.locks := by rw [counted]; rfl
  have management : u.management = s.management := by rw [counted]; rfl
  have eq : countRetry n v g s = judgeClaim { node := n, volume := v, granule := g } u := by rw [countRetry, counted]
  rw [eq]
  by_cases unjudged : min 15 (s.retryCount n + 1) < s.settings.lockoutLimit ∨ (s.volume v).lockoutEnable = false
  · rw [judgeClaim, if_pos (limit.mpr unjudged)]
    refine ⟨count, locks, ?_, fun m => by rw [nodes]; exact .refl _, onLocks⟩
    rw [if_pos unjudged]
    exact ⟨active, pending, management⟩
  have judged := mt limit.mp unjudged
  cases held : s.lock.active with
  | none =>
    obtain ⟨lock, flag, claimed⟩ := activateClaim_eq { node := n, volume := v, granule := g } u
    rw [judgeClaim_of_idle judged (active.trans held)]
    refine ⟨fun m => ?_, ?_, ?_, fun m => ?_, onLocks.trans claimed⟩
    · rw [State.retryCount, lock]
      exact count m
    · rw [lock]
      exact locks
    · rw [if_neg unjudged, held]
      refine ⟨?_, ?_, flag, fun h other => ?_⟩
      · rw [lock, counted]
        rfl
      · rw [lock]
        exact pending
      · rw [activateClaim_flagSet other, State.flagSet, management]
        rfl
    · rw [← nodes]
      exact activateClaim_moreFrames ..
  | some a =>
    rw [judgeClaim_of_active judged (active.trans held), pending]
    by_cases ignored : a.claim.node = n ∨ (∃ x ∈ s.lock.pendingClaims, x.node = n) ∨ 4 ≤ s.lock.pendingClaims.length
    · rw [if_pos ignored]
      refine ⟨count, locks, ?_, fun m => by rw [nodes]; exact .refl _, onLocks⟩
      rw [if_neg unjudged, held]
      exact ⟨active.trans held, management, pending.trans (if_pos ignored).symm⟩
    · rw [if_neg ignored]
      refine ⟨count, locks, ?_, fun m => by rw [← nodes]; exact .refl _, onLocks.trans (onLocks_lock ..)⟩
      rw [if_neg unjudged, held]
      exact ⟨active.trans held, management, (if_neg ignored).symm⟩

/-! ## Claims that end (R165, R167) -/

/-- Dropped pending claims leave the list; a dropped active claim hands over. -/
theorem dropClaims_cases (p : Claim → Bool) (s : State) :
    ((∀ a, s.lock.active = some a → p a.claim = false) ∧
        dropClaims p s =
          { s with lock := { s.lock with pendingClaims := s.lock.pendingClaims.filter fun c => !p c } }) ∨
      ∃ a, s.lock.active = some a ∧ p a.claim = true ∧
        dropClaims p s = handOff
          { s with lock := { s.lock with pendingClaims := s.lock.pendingClaims.filter fun c => !p c } } := by
  unfold dropClaims
  dsimp only
  split
  · next idle => exact .inl ⟨fun a h => absurd ((show s.lock.active = none from idle).symm.trans h) (by simp), rfl⟩
  · next a active =>
    split
    · next dropped => exact .inr ⟨a, active, dropped, rfl⟩
    · next kept =>
      refine .inl ⟨fun b h => ?_, rfl⟩
      rw [show s.lock.active = some a from active] at h
      cases h
      simpa using kept

theorem dropClaims_onLocks (p : Claim → Bool) (s : State) : OnLocks s (dropClaims p s) := by
  obtain ⟨-, eq⟩ | ⟨a, -, -, eq⟩ := dropClaims_cases p s <;> rw [eq]
  · exact onLocks_lock ..
  · exact (onLocks_lock ..).trans (handOff_onLocks _)

theorem dropClaims_moreFrames (p : Claim → Bool) (s : State) (n : NodePort) :
    MoreFrames (s.node n) ((dropClaims p s).node n) := by
  obtain ⟨-, eq⟩ | ⟨a, -, -, eq⟩ := dropClaims_cases p s <;> rw [eq]
  · exact .refl _
  · exact handOff_moreFrames
      { s with lock := { s.lock with pendingClaims := s.lock.pendingClaims.filter fun c => !p c } } n

theorem dropClaims_lock (p : Claim → Bool) (s : State) :
    (dropClaims p s).lock =
      { s.lock with
        active := (dropClaims p s).lock.active, pendingClaims := (dropClaims p s).lock.pendingClaims } := by
  obtain ⟨-, eq⟩ | ⟨a, -, -, eq⟩ := dropClaims_cases p s <;> rw [eq]
  rw [handOff_lock]

/-! ## The lock of an admitted LOCKREAD, and of an admitted UNLOCKWRITE (R156, R158) -/

theorem takeLock_lockTaken {j : LockIdx} (free : (s.lockAt j).state = .free)
    (lowest : ∀ l, l < j → (s.lockAt l).state ≠ .free) : LockTaken n v g s (takeLock n v g s) := by
  obtain ⟨u, taken⟩ : ∃ u, u = (s.setLock j
      { state := .held, volume := v, granule := g, holder := n, age := 0, owed := false }).setRetry n 0 := ⟨_, rfl⟩
  have found : tableFind s.lock.locks (·.state == .free) = some j :=
    tableFind_eq_some.mpr ⟨by simpa [State.lockAt] using free, fun l lower => by simpa [State.lockAt] using lowest l lower⟩
  have eq : takeLock n v g s = dropClaims (fun c => c.node == n && c.volume == v && c.granule == g) u := by
    simp only [takeLock, found, taken]
  have isClaim (c : Claim) : (c.node == n && c.volume == v && c.granule == g) = (c == { node := n, volume := v, granule := g }) := by
    rw [Bool.eq_iff_iff]
    cases c
    simp [and_assoc]
  have locks (l : LockIdx) : u.lockAt l =
      if l = j then { state := .held, volume := v, granule := g, holder := n, age := 0, owed := false } else s.lockAt l := by
    rw [taken]
    exact State.setLock_lockAt_eq ..
  have retry (m : NodePort) : u.retryCount m = if m = n then 0 else s.retryCount m := by
    rw [taken]
    exact State.setRetry_retryCount_eq ..
  have active : u.lock.active = s.lock.active := by rw [taken]; rfl
  have pending : u.lock.pendingClaims = s.lock.pendingClaims := by rw [taken]; rfl
  have onLocks : OnLocks s u := by rw [taken]; rfl
  have settings : u.settings = s.settings := by rw [taken]; rfl
  rw [eq]
  simp only [isClaim]
  have lock := dropClaims_lock (· == { node := n, volume := v, granule := g }) u
  refine ⟨⟨j, free, lowest, ?_, fun l other => ?_⟩, fun m => ?_, fun other => ?_, fun a here claim => ?_⟩
  · rw [State.lockAt, lock]
    exact (locks j).trans (if_pos rfl)
  · rw [State.lockAt, lock]
    exact (locks l).trans (if_neg other)
  · rw [State.retryCount, lock]
    exact retry m
  · obtain ⟨-, eq⟩ | ⟨a, here, claim, -⟩ := dropClaims_cases (· == { node := n, volume := v, granule := g }) u
    · rw [eq]
      exact ⟨active, congrArg (List.filter _) pending⟩
    · exact absurd (beq_iff_eq.mp claim) (other a (active.symm.trans here))
  · obtain ⟨other, -⟩ | ⟨-, -, -, eq⟩ := dropClaims_cases (· == { node := n, volume := v, granule := g }) u
    · exact absurd (other a (active.trans here)) (by simp [claim])
    · obtain ⟨none, first⟩ := handOff_handedOver
        { u with lock := { u.lock with
          pendingClaims := u.lock.pendingClaims.filter fun c => !(c == { node := n, volume := v, granule := g }) } }
      have shares := onLocks.trans (onLocks_lock u { u.lock with
        pendingClaims := u.lock.pendingClaims.filter fun c => !(c == { node := n, volume := v, granule := g }) })
      rw [eq, ← pending]
      refine ⟨fun discarded => none fun c mem => (shares.sharesVolume ..).trans (discarded c mem),
        fun before c after split discarded passes => ?_⟩
      rw [← settings]
      exact first before c after split (fun x mem => (shares.sharesVolume ..).trans (discarded x mem))
        ((shares.sharesVolume ..).trans passes)

theorem giveLock_given {j : LockIdx} (on : s.lockOn v g = some j) (holder : (s.lockAt j).holder = n) :
    giveLock n v g s = s.setLock j (s.lockAt j).freed := by
  simp only [giveLock, on, holder, if_true]

end Sys2Proof.Machine
end

section
/-! PROOFS. What the translation of a request touches, the parts of a request (R11), and the stages that it needs
(R76). -/

namespace Sys2Proof.Machine

/-! ## Map reads -/

/-- From s to t only map entries were read: the map, notices and their frames alone may differ, the settings stay. -/
structure MapRead (s t : State) : Prop where
  onMap : OnMap s t
  settings : t.settings = s.settings
  nodes : ∀ n, MoreFrames (s.node n) (t.node n)

theorem MapRead.refl (s : State) : MapRead s s := ⟨.refl s, rfl, fun _ => .refl _⟩

theorem MapRead.trans {s t u : State} (first : MapRead s t) (second : MapRead t u) : MapRead s u :=
  ⟨first.onMap.trans second.onMap, second.settings.trans first.settings, fun n => (first.nodes n).trans (second.nodes n)⟩

theorem raiseFlag_mapRead (f : Flag) (x : Nat) (s : State) : MapRead s (raiseFlag f x s) :=
  ⟨raiseFlag_onMap .., raiseFlag_settings .., raiseFlag_moreFrames f x s⟩

theorem readMapEntry_mapRead (i : MapIdx) (s : State) : MapRead s (readMapEntry i s) := by
  have written (e : MapEntry) : MapRead s (s.setMapEntry i e) := ⟨rfl, rfl, fun _ => .refl _⟩
  rcases readMapEntry_cases i s with ⟨-, read⟩ | ⟨original, -, read⟩ | ⟨-, read⟩ <;> rw [read]
  · exact written _
  · exact (written _).trans (raiseFlag_mapRead ..)
  · exact written _

theorem raiseMapFault_mapRead (kind : ReqKind) (i : Nat) (s : State) : MapRead s (raiseMapFault kind i s) := by
  unfold raiseMapFault
  split
  · exact (raiseFlag_mapRead ..).trans (raiseFlag_mapRead ..)
  · exact raiseFlag_mapRead ..

theorem scanMap_mapRead (kind : ReqKind) (v : Volume) (g k i : Nat) (s : State) : MapRead s (scanMap kind v g k i s).1 := by
  induction k generalizing i s with
  | zero => exact .refl s
  | succ k ih =>
    unfold scanMap
    split
    · dsimp only
      split
      · exact (readMapEntry_mapRead ..).trans (raiseMapFault_mapRead ..)
      · split
        · exact readMapEntry_mapRead ..
        · exact (readMapEntry_mapRead ..).trans (ih ..)
    · exact .refl s

theorem translateCut_mapRead (kind : ReqKind) (v : Volume) (c : Cut) (s : State) :
    MapRead s (translateCut kind v c s).1 := by
  have read := scanMap_mapRead kind v c.granule (s.volume v).extents (s.volume v).first.val s
  unfold translateCut
  split
  · next scan => rw [scan] at read; exact read
  · next scan =>
    rw [scan] at read
    split <;> exact read

theorem translateAll_mapRead (kind : ReqKind) (v : Volume) (cs : List Cut) (s : State) :
    MapRead s (translateAll kind v cs s).1 := by
  induction cs generalizing s with
  | nil => exact .refl s
  | cons c cs ih =>
    have read := translateCut_mapRead kind v c s
    unfold translateAll
    split
    · next cut => rw [cut] at read; exact read
    · next u p cut =>
      rw [cut] at read
      have rest := ih u
      split
      · next all => rw [all] at rest; exact read.trans rest
      · next all => rw [all] at rest; exact read.trans rest

theorem State.translated_mapRead {s s' : State} {n : NodePort} {k : SlotIdx} {r : Except Status (List Piece)}
    (translated : s.translated n k = (s', r)) : MapRead s s' := by
  have read := translateAll_mapRead (s.slot n k).kind (s.slot n k).volume
    (cutRequest (s.slot n k).offset (s.slot n k).length) s
  unfold State.translated at translated
  rwa [translated] at read

/-! ## The parts of a request (R11) -/

/-- The part of a request in the granule j after its first. -/
theorem cutRequest_getElem? {o L j : Nat} (within : o / 8 + j ≤ (o + L - 1) / 8) :
    (cutRequest o L)[j]? = some
      { granule := o / 8 + j, first := cutFirst o (o / 8 + j)
        count := cutLast o L (o / 8 + j) - cutFirst o (o / 8 + j) + 1 } := by
  simp only [cutRequest, List.getElem?_map]
  rw [List.getElem?_range (by omega)]
  rfl

theorem cutRequest_length (o L : Nat) (pos : 1 ≤ L) : (cutRequest o L).length = (o + L - 1) / 8 - o / 8 + 1 := by
  simp only [cutRequest, List.length_map, List.length_range]
  omega

theorem cutFirst_add (o j : Nat) : cutFirst o (o / 8 + j) = if j = 0 then o % 8 else 0 := by
  unfold cutFirst
  exact if_congr (by omega) rfl rfl

/-- First index and count of a part reach to its last index. -/
theorem cutFirst_add_count {o L j : Nat} (pos : 1 ≤ L) :
    cutFirst o (o / 8 + j) + (cutLast o L (o / 8 + j) - cutFirst o (o / 8 + j) + 1) =
      (if o / 8 + j = (o + L - 1) / 8 then (o + L - 1) % 8 else 7) + 1 := by
  rw [cutFirst_add, cutLast]
  split <;> split <;> omega

/-- The parts before the last take every block from the offset to a granule's end. -/
theorem cutRequest_prefix_sum {o L m : Nat} (before : o / 8 + m ≤ (o + L - 1) / 8) :
    (((List.range m).map fun j => cutLast o L (o / 8 + j) - cutFirst o (o / 8 + j) + 1).sum) + (if m = 0 then 0 else o % 8) =
      8 * m := by
  induction m with
  | zero => rfl
  | succ m ih =>
    have count : cutLast o L (o / 8 + m) - cutFirst o (o / 8 + m) + 1 + (if m = 0 then o % 8 else 0) = 8 := by
      rw [cutFirst_add, cutLast, if_neg (by omega)]
      split <;> omega
    have := ih (by omega)
    rw [List.range_succ, List.map_append, List.sum_append, List.map_singleton, List.sum_singleton, if_neg (by omega)]
    split at count <;> split at this <;> omega

theorem cutRequest_sum (o L : Nat) (pos : 1 ≤ L) : ((cutRequest o L).map (·.count)).sum = L := by
  obtain ⟨m, last⟩ : ∃ m, (o + L - 1) / 8 = o / 8 + m := ⟨(o + L - 1) / 8 - o / 8, by omega⟩
  have before := cutRequest_prefix_sum (o := o) (L := L) (m := m) (by omega)
  have count := cutFirst_add_count (o := o) (L := L) (j := m) pos
  rw [if_pos last.symm, cutFirst_add] at count
  have parts : (cutRequest o L).map (·.count) =
      (List.range (m + 1)).map fun j => cutLast o L (o / 8 + j) - cutFirst o (o / 8 + j) + 1 := by
    simp only [cutRequest, List.map_map, last, show o / 8 + m + 1 - o / 8 = m + 1 by omega]
    rfl
  rw [parts, List.range_succ, List.map_append, List.sum_append, List.map_singleton, List.sum_singleton, cutFirst_add]
  split at count <;> split at before <;> simp_all <;> omega

/-! ## The stages that a request needs (R76) -/

section
variable {s : State} {n : NodePort} {k : SlotIdx} {kind : ReqKind}

theorem stagesNeeded_append (ps : List Piece) (p : Piece) (seen : List (DiskPort × Nat)) :
    stagesNeeded s n k kind (ps ++ [p]) seen =
      stagesNeeded s n k kind ps seen +
        (if kind.isWrite = true ∨ (p.disk, p.diskGranule) ∈ (ps.map fun q => (q.disk, q.diskGranule)) ∨
            (p.disk, p.diskGranule) ∈ seen ∨ s.joinTarget n k p.disk p.diskGranule = none then 1 else 0) := by
  induction ps generalizing seen with
  | nil =>
    simp [stagesNeeded, or_assoc]
  | cons q ps ih =>
    simp only [List.cons_append, stagesNeeded, ih, List.map_cons, List.mem_cons, Nat.add_assoc]
    congr 2
    exact if_congr (by tauto) rfl rfl

theorem needsStage_iff {ps : List Piece} {p : Piece} :
    NeedsStage s n k kind ps p ↔
      kind.isWrite = true ∨ (p.disk, p.diskGranule) ∈ (ps.map fun q => (q.disk, q.diskGranule)) ∨
        s.joinTarget n k p.disk p.diskGranule = none := by
  have write : kind.isWrite = true ↔ kind = .write ∨ kind = .unlockwrite := by cases kind <;> simp [ReqKind.isWrite]
  have alone : s.joinTarget n k p.disk p.diskGranule = none ↔
      ¬∃ i, (s.chain p.disk p.diskGranule).getLast? = some i ∧ (s.stage i).joinable n k = true := by
    simp only [← State.joinTarget_eq_some, Option.eq_none_iff_forall_ne_some, not_exists, ne_eq]
  unfold NeedsStage
  rw [write, alone]
  simp only [Stage.joinable_iff, List.mem_map, Prod.mk.injEq, or_assoc]

end

end Sys2Proof.Machine
end

section
/-! PROOFS. Admission attempts (R74 to R78): the heads that wait, that are refused, and that are admitted. -/

namespace Sys2Proof.Machine

/-! ## After an attempt (R75) -/

section
variable {n : NodePort} {k : SlotIdx}

/-- What is noted of a wait list is the count of attempts owed to its node. -/
theorem noteHead_eq (n : NodePort) (before s : State) :
    ∃ due, noteHead n before s = s.setDesk n { s.desk n with attemptsDue := due } := by
  obtain ⟨-, eq⟩ | ⟨k, -, -, eq⟩ | ⟨k, -, -, eq⟩ := noteHead_cases n before s <;> rw [eq]
  · exact ⟨_, rfl⟩
  · exact ⟨(s.desk n).attemptsDue, (setDesk_self n s).symm⟩
  · exact ⟨_, rfl⟩

theorem noteHead_of_same {before s : State} (head : before.headOf n = some k) (same : s.headOf n = some k) :
    noteHead n before s = s := by
  simp only [noteHead, same, head, if_true]

@[simp] theorem attempted_slot (n : NodePort) (s : State) (m : NodePort) (l : SlotIdx) :
    (attempted n s).slot m l = s.slot m l := by
  unfold attempted
  by_cases same : m = n
  · subst same
    simp [State.slot]
  · simp [State.slot, State.setDesk_desk_ne, same]

theorem attempted_desk (n : NodePort) (s : State) (m : NodePort) :
    (attempted n s).desk m = if m = n then { s.desk n with attemptsDue := (s.desk n).attemptsDue - 1 } else s.desk m :=
  State.setDesk_desk_eq ..

@[simp] theorem attempted_headOf (n : NodePort) (s : State) (m : NodePort) : (attempted n s).headOf m = s.headOf m := by
  rw [State.headOf, attempted_desk]
  split
  · next same => subst same; rfl
  · rfl

/-- An attempt that is owed judges the head of the node's wait list. -/
theorem exec_attempt {s : State} (owed : (s.desk n).attemptsDue ≠ 0) (head : s.headOf n = some k) :
    exec (.admissionAttempt n) s = .next (noteHead n (attempted n s) (judgeHead n k (attempted n s))) := by
  refine congrArg Host.Outcome.next ((takeAttempt_owed owed).trans ?_)
  simp only [attempt, attempted_headOf, head]

/-! ## A refused head (R78) -/

theorem freeSlot_slot (n : NodePort) (k l : SlotIdx) (s : State) :
    (freeSlot n k s).slot n l = if l = k then (s.slot n k).ended else s.slot n l := by
  by_cases same : l = k
  · subst same
    simp [freeSlot, State.slot, Slot.freed_eq_ended]
  · have : k.val ≠ l.val := fun h => same (Fin.ext h.symm)
    simp [freeSlot, State.slot, same, this]

/-- A head that is refused leaves what the refusal says, in the state of the checks before it. -/
theorem refuseHead_headRefused {s : State} (up : (s.node n).state = .up) (before : State) (k : SlotIdx)
    (status : Status) : HeadRefused n k status s (noteHead n before (refuseHead n k status s)) := by
  have refused : refuseHead n k status s = replied n (.done (s.slot n k).tag status 0) (freeSlot n k s) :=
    produceNode_eq_replied (s := freeSlot n k s) up _
  obtain ⟨due, noted⟩ := noteHead_eq n before (refuseHead n k status s)
  rw [noted, refused]
  have desk : (replied n (.done (s.slot n k).tag status 0) (freeSlot n k s)).desk n = (freeSlot n k s).desk n := rfl
  have slot (l : SlotIdx) : ((replied n (.done (s.slot n k).tag status 0) (freeSlot n k s)).setDesk n
      { (freeSlot n k s).desk n with attemptsDue := due }).slot n l = (freeSlot n k s).slot n l := by
    simp [State.slot]
  rw [desk]
  refine ⟨?_, fun l other => ?_, fun m other => ?_, ?_, ?_, fun m other => ?_, rfl⟩
  · rw [slot, freeSlot_slot, if_pos rfl]
  · rw [slot, freeSlot_slot, if_neg other]
  · rw [State.setDesk_desk_ne _ _ _ _ other]
    exact State.setDesk_desk_ne _ _ _ _ other
  · rw [State.setDesk_desk]
    simp [freeSlot]
  · rw [State.setDesk_node, replied, State.setNode_node]
    rfl
  · rw [State.setDesk_node, replied, State.setNode_node_ne _ _ _ _ other]
    rfl

/-- A refusal of the state that an owed attempt was taken from. -/
theorem headRefused_of_attempted {s t : State} {status : Status} (refused : HeadRefused n k status (attempted n s) t) :
    HeadRefused n k status s t := by
  obtain ⟨ended, others, desks, waitList, out, nodes, eq⟩ := refused
  rw [attempted_slot] at ended out
  refine ⟨ended, fun l other => by simpa using others l other, fun m other => ?_, ?_, out, nodes, eq⟩
  · rw [desks m other, attempted_desk, if_neg other]
  · rw [waitList, attempted_desk, if_pos rfl]

/-! ## The judgement of a head, by the question that decides it (R74) -/

section
variable {s s' : State} {status : Status}

theorem judgeHead_of_short (short : (s.meterOf n).short (s.slot n k).length = true) :
    judgeHead n k s = waitHead n k .credit s := by
  rw [judgeHead]
  exact if_pos short

section
variable (credit : (s.meterOf n).short (s.slot n k).length = false)
include credit

theorem judgeHead_of_loan (refused : loanCheck (s.slot n k).volume n (s.slot n k).kind s = some status) :
    judgeHead n k s = refuseHead n k status s := by
  simp only [judgeHead, credit, Bool.false_eq_true, if_false, refused]

theorem judgeHead_of_volume (loan : loanCheck (s.slot n k).volume n (s.slot n k).kind s = none)
    (refused : volumeCheck (s.slot n k).volume s = some status) :
    judgeHead n k s = refuseHead n k status
      (countRefusal (s.slot n k).kind status n (s.slot n k).volume ((s.slot n k).offset / 8) s) := by
  simp only [judgeHead, credit, Bool.false_eq_true, if_false, loan, refused]

end

theorem judgeHead_of_untranslated (reaches : HeadReaches s n k) (failed : s.translated n k = (s', .error status)) :
    judgeHead n k s = refuseHead n k status s' := by
  have volume : volumeCheck (s.slot n k).volume s = none := by simp only [volumeCheck, reaches.volume]
  unfold State.translated at failed
  simp only [judgeHead, reaches.credit, Bool.false_eq_true, if_false, reaches.loan, volume, failed]

section
variable {ps : List Piece} (reaches : HeadReaches s n k) (translated : s.translated n k = (s', .ok ps))
include reaches translated

theorem judgeHead_of_locked
    (refused : lockCheck (s.slot n k).kind n (s.slot n k).volume ((s.slot n k).offset / 8) s' = some status) :
    judgeHead n k s = refuseHead n k status
      (countRefusal (s.slot n k).kind status n (s.slot n k).volume ((s.slot n k).offset / 8) s') := by
  have volume : volumeCheck (s.slot n k).volume s = none := by simp only [volumeCheck, reaches.volume]
  unfold State.translated at translated
  simp only [judgeHead, reaches.credit, Bool.false_eq_true, if_false, reaches.loan, volume, translated, refused]

theorem judgeHead_of_passed
    (passed : lockCheck (s.slot n k).kind n (s.slot n k).volume ((s.slot n k).offset / 8) s' = none) :
    judgeHead n k s =
      if s'.freeStages < stagesNeeded s' n k (s.slot n k).kind ps [] then waitHead n k .stages s'
      else admitHead n k ps s' := by
  have volume : volumeCheck (s.slot n k).volume s = none := by simp only [volumeCheck, reaches.volume]
  unfold State.translated at translated
  simp only [judgeHead, reaches.credit, Bool.false_eq_true, if_false, reaches.loan, volume, translated, passed]

end

/-! ## Refused heads -/

/-- An attempt whose head is refused in some state of its checks. -/
theorem exec_attempt_refused (owed : (s.desk n).attemptsDue ≠ 0) (head : s.headOf n = some k)
    (refused : judgeHead n k (attempted n s) = refuseHead n k status s') (up : (s'.node n).state = .up) :
    ∃ t, exec (.admissionAttempt n) s = .next t ∧ HeadRefused n k status s' t := by
  refine ⟨_, exec_attempt owed head, ?_⟩
  rw [refused]
  exact refuseHead_headRefused up ..

theorem countRefusal_of_retry {kind : ReqKind} (lockread : kind = .lockread) (n : NodePort) (v : Volume) (g : Nat)
    (s : State) : countRefusal kind .retry n v g s = countRetry n v g s := if_pos ⟨lockread, rfl⟩

theorem countRefusal_of_other {kind : ReqKind} (other : kind ≠ .lockread ∨ status ≠ .retry) (n : NodePort) (v : Volume)
    (g : Nat) (s : State) : countRefusal kind status n v g s = s := if_neg (not_and_or.mpr other)

theorem countRetry_up {v : Volume} {g : Nat} (up : (s.node n).state = .up) : ((countRetry n v g s).node n).state = .up := by
  obtain ⟨-, -, -, nodes, -⟩ := countRetry_retryCounted n v g s
  exact (nodes n).state.trans up

/-- Settles O29, by the check that fails. -/
theorem failedChecksRefuseTheHead : Obligations.FailedChecksRefuseTheHead := by
  unfold Obligations.FailedChecksRefuseTheHead
  refine ⟨fun n k s status owed head up credit failed => ?_, fun n k s owed head up credit loan frozen lockread => ?_,
    fun n k s s' owed up reaches => ⟨fun status failed => ?_, fun ps status translated locked => ?_⟩,
    fun n v g s => ⟨fun j named only => lockChecks_of_named named only n, fun unnamed => lockChecks_of_unnamed unnamed n,
      rfl, rfl⟩,
    fun n v kind s => ⟨fun none => ?_, fun i used volume node only => ⟨fun ended => ?_, fun inForce => ?_⟩⟩⟩
  · have refused : judgeHead n k (attempted n s) = refuseHead n k status (attempted n s) := by
      rcases failed with loan | ⟨loan, ⟨offline, rfl⟩ | ⟨frozen, rfl, other⟩⟩
      · refine judgeHead_of_loan ?_ ?_ <;> rw [attempted_slot]
        · exact credit
        · exact loan
      · have volume : volumeCheck ((attempted n s).slot n k).volume (attempted n s) = some .noVolume := by
          rw [attempted_slot]
          simp only [volumeCheck, show (attempted n s).volume (s.slot n k).volume = s.volume (s.slot n k).volume from rfl,
            offline]
        rw [judgeHead_of_volume (by rw [attempted_slot]; exact credit) (by rw [attempted_slot]; exact loan) volume,
          countRefusal_of_other (.inr (by simp))]
      · have volume : volumeCheck ((attempted n s).slot n k).volume (attempted n s) = some .retry := by
          rw [attempted_slot]
          simp only [volumeCheck, show (attempted n s).volume (s.slot n k).volume = s.volume (s.slot n k).volume from rfl,
            frozen]
        rw [judgeHead_of_volume (by rw [attempted_slot]; exact credit) (by rw [attempted_slot]; exact loan) volume,
          countRefusal_of_other (.inl (by rw [attempted_slot]; exact other))]
    obtain ⟨t, taken, refused⟩ := exec_attempt_refused owed head refused up
    exact ⟨t, taken, headRefused_of_attempted refused⟩
  · have volume : volumeCheck ((attempted n s).slot n k).volume (attempted n s) = some .retry := by
      rw [attempted_slot]
      simp only [volumeCheck, show (attempted n s).volume (s.slot n k).volume = s.volume (s.slot n k).volume from rfl,
        frozen]
    have refused := judgeHead_of_volume (by rw [attempted_slot]; exact credit) (by rw [attempted_slot]; exact loan) volume
    rw [attempted_slot, countRefusal_of_retry lockread] at refused
    obtain ⟨t, taken, refused⟩ := exec_attempt_refused owed head refused (countRetry_up up)
    exact ⟨t, taken, _, countRetry_retryCounted .., refused⟩
  · have upHere : (s'.node n).state = .up := ((State.translated_mapRead failed).nodes n).state.trans up
    exact exec_attempt_refused owed (by simpa using reaches.head) (judgeHead_of_untranslated reaches failed) upHere
  · have upHere : (s'.node n).state = .up := ((State.translated_mapRead translated).nodes n).state.trans up
    have refused := judgeHead_of_locked reaches translated (by rw [attempted_slot]; exact locked)
    rw [attempted_slot] at refused
    refine ⟨fun lockread retry => ?_, fun other => ?_⟩
    · subst retry
      rw [countRefusal_of_retry lockread] at refused
      obtain ⟨t, taken, refused⟩ := exec_attempt_refused owed (by simpa using reaches.head) refused (countRetry_up upHere)
      exact ⟨t, taken, _, countRetry_retryCounted .., refused⟩
    · rw [countRefusal_of_other other] at refused
      exact exec_attempt_refused owed (by simpa using reaches.head) refused upHere
  · simp only [loanCheck, State.pairEntry_eq_none none]
  · have notInForce : (s.loanAt i).inForce = false := by rcases ended with h | h <;> simp [Loan.inForce, h]
    simp only [loanCheck, State.pairEntry_eq_some used volume node only, notInForce, Bool.false_eq_true, if_false]
  · have force : (s.loanAt i).inForce = true := by rcases inForce with h | h <;> simp [Loan.inForce, h]
    simp only [loanCheck, State.pairEntry_eq_some used volume node only, force, if_true, LoanMode.permits_iff]

end

end

end Sys2Proof.Machine
end

section
/-! PROOFS. Admission attempts (R74 to R77): the heads that wait and the heads that are admitted. -/

namespace Sys2Proof.Machine

/-! ## Disk records but for their lanes -/

/-- The disk records differ in their lanes alone. -/
structure OnLanes (s t : State) : Prop where
  disks : ∀ d, ∃ lanes, t.disk d = { s.disk d with lanes := lanes }

section
variable {s t u : State}

theorem OnLanes.of_dispatch (same : t.dispatch = s.dispatch) : OnLanes s t := ⟨fun d => ⟨(s.disk d).lanes, by
  rw [State.disk, same]
  rfl⟩⟩

theorem OnLanes.refl (s : State) : OnLanes s s := .of_dispatch rfl

theorem OnLanes.trans (first : OnLanes s t) (second : OnLanes t u) : OnLanes s u := by
  refine ⟨fun d => ?_⟩
  obtain ⟨a, first⟩ := first.disks d
  obtain ⟨b, second⟩ := second.disks d
  exact ⟨b, by rw [second, first]⟩

theorem leaveLanes_onLanes (d : DiskPort) (i : StageIdx) (s : State) : OnLanes s (leaveLanes d i s) := by
  refine ⟨fun e => ?_⟩
  rw [leaveLanes_disk]
  split
  · next h => subst h; exact ⟨_, rfl⟩
  · exact ⟨_, rfl⟩

theorem laneTail_onLanes (d : DiskPort) (x : Class) (i : StageIdx) (s : State) : OnLanes s (laneTail d x i s) := by
  refine ⟨fun e => ?_⟩
  rw [laneTail_disk]
  split
  · next h => subst h; exact ⟨_, rfl⟩
  · exact ⟨_, rfl⟩

theorem newStage_onLanes (kind : StageKind) (p : Piece) (x : Class) (w : List Waiter) (o : Option Owner)
    (data : List Block) (s : State) : OnLanes s (newStage kind p x w o data s) := by
  unfold newStage
  split
  · exact .refl s
  · dsimp only
    refine OnLanes.trans ?_ (laneTail_onLanes ..)
    exact .of_dispatch rfl

theorem joinStage_onLanes (i : StageIdx) (w : Waiter) (x : Class) (s : State) : OnLanes s (joinStage i w x s) := by
  rcases joinStage_cases i w x s with ⟨-, -, dispatch⟩ | ⟨-, dispatch⟩
  · exact ((leaveLanes_onLanes ..).trans (laneTail_onLanes ..)).trans (.of_dispatch dispatch)
  · exact .of_dispatch dispatch

theorem createPiece_onLanes (n : NodePort) (k : SlotIdx) (kind : ReqKind) (x : Class) (p : Piece) (data : List Block)
    (s : State) : OnLanes s (createPiece n k kind x p data s) := by
  unfold createPiece
  split
  · exact newStage_onLanes ..
  · split
    · exact joinStage_onLanes ..
    · exact newStage_onLanes ..

theorem createPieces_onLanes (n : NodePort) (k : SlotIdx) (kind : ReqKind) (x : Class) (ps : List Piece)
    (data : List Block) (s : State) : OnLanes s (createPieces n k kind x ps data s) := by
  induction ps generalizing data s with
  | nil => exact .refl s
  | cons p ps ih => exact (createPiece_onLanes ..).trans (ih ..)

/-! ## Creation reads stages and lanes alone -/

theorem newStage_congr (stages : s.stages = t.stages) (dispatch : s.dispatch = t.dispatch) (kind : StageKind) (p : Piece)
    (x : Class) (w : List Waiter) (o : Option Owner) (data : List Block) :
    (newStage kind p x w o data s).stages = (newStage kind p x w o data t).stages ∧
      (newStage kind p x w o data s).dispatch = (newStage kind p x w o data t).dispatch := by
  unfold newStage
  rw [stages]
  split
  · exact ⟨stages, dispatch⟩
  · simp only [laneTail, State.setDisk, State.setStage, State.stage, State.disk, stages, dispatch]
    exact ⟨trivial, trivial⟩

theorem joinStage_congr (stages : s.stages = t.stages) (dispatch : s.dispatch = t.dispatch) (i : StageIdx) (w : Waiter)
    (x : Class) :
    (joinStage i w x s).stages = (joinStage i w x t).stages ∧
      (joinStage i w x s).dispatch = (joinStage i w x t).dispatch := by
  have stage : s.stage i = t.stage i := by rw [State.stage, stages]; rfl
  unfold joinStage
  dsimp only
  rw [stage]
  split
  · simp only [laneTail, leaveLanes, State.setDisk, State.setStage, State.disk, stages, dispatch]
    exact ⟨trivial, trivial⟩
  · simp only [State.setStage, stages, dispatch]
    exact ⟨trivial, trivial⟩

theorem createPiece_congr (stages : s.stages = t.stages) (dispatch : s.dispatch = t.dispatch) (n : NodePort)
    (k : SlotIdx) (kind : ReqKind) (x : Class) (p : Piece) (data : List Block) :
    (createPiece n k kind x p data s).stages = (createPiece n k kind x p data t).stages ∧
      (createPiece n k kind x p data s).dispatch = (createPiece n k kind x p data t).dispatch := by
  have target : s.joinTarget n k p.disk p.diskGranule = t.joinTarget n k p.disk p.diskGranule := by
    unfold State.joinTarget State.chain State.stage
    rw [stages]
  unfold createPiece
  rw [target]
  split
  · exact newStage_congr stages dispatch ..
  · split
    · exact joinStage_congr stages dispatch ..
    · exact newStage_congr stages dispatch ..

theorem createPieces_congr (stages : s.stages = t.stages) (dispatch : s.dispatch = t.dispatch) (n : NodePort)
    (k : SlotIdx) (kind : ReqKind) (x : Class) (ps : List Piece) (data : List Block) :
    (createPieces n k kind x ps data s).stages = (createPieces n k kind x ps data t).stages ∧
      (createPieces n k kind x ps data s).dispatch = (createPieces n k kind x ps data t).dispatch := by
  induction ps generalizing data s t with
  | nil => exact ⟨stages, dispatch⟩
  | cons p ps ih =>
    obtain ⟨stages, dispatch⟩ := createPiece_congr stages dispatch n k kind x p (data.take p.count)
    exact ih stages dispatch _

/-! ## Locks at an admission -/

/-- A lock that was taken reads loans, locks and settings alone. -/
theorem LockTaken.congr {n : NodePort} {v : Volume} {g : Nat} {s' t' : State} (taken : LockTaken n v g s t)
    (lock : s'.lock = s.lock) (loan : s'.loan = s.loan) (settings : s'.settings = s.settings)
    (lock' : t'.lock = t.lock) (management : t'.management = t.management) : LockTaken n v g s' t' := by
  have shares (v : Volume) (m : NodePort) : s'.sharesVolume v m = s.sharesVolume v m := by
    rw [State.sharesVolume, loan]
    rfl
  obtain ⟨locks, retry, pending, handed⟩ := taken
  unfold LockTaken HandedOver State.flagSet
  simp only [State.lockAt, State.retryCount, lock, lock', shares, settings, management]
  exact ⟨locks, retry, pending, handed⟩

theorem State.lowestFreeLock {n : NodePort} {v : Volume} {g : Nat} (passed : lockreadCheck n v g s = none) :
    ∃ j, (s.lockAt j).state = .free ∧ ∀ l, l < j → (s.lockAt l).state ≠ .free := by
  have unnamed := lockOn_of_lockreadCheck passed
  have free : tableAny s.lock.locks (·.state == .free) = true := by
    simp only [lockreadCheck, unnamed] at passed
    split at passed
    · cases passed
    · split at passed
      · assumption
      · cases passed
  cases found : tableFind s.lock.locks (·.state == .free) with
  | none =>
    obtain ⟨j, here⟩ := tableAny_iff.mp free
    rw [tableFind_eq_none.mp found j] at here
    cases here
  | some j =>
    obtain ⟨here, lower⟩ := tableFind_eq_some.mp found
    exact ⟨j, by simpa [State.lockAt] using here, fun l lt => by simpa [State.lockAt] using lower l lt⟩

theorem State.heldLock {n : NodePort} {v : Volume} {g : Nat} (passed : unlockwriteCheck n v g s = none) :
    ∃ j, s.lockOn v g = some j ∧ (s.lockAt j).holder = n ∧ s.lockNamed v g j := by
  unfold unlockwriteCheck at passed
  split at passed
  · next j on =>
    split at passed
    · next holder => exact ⟨j, on, holder, State.lockNamed_iff.mp (tableFind_eq_some.mp on).1⟩
    · cases passed
  · cases passed

theorem takeLock_onLocks (n : NodePort) (v : Volume) (g : Nat) (s : State) : OnLocks s (takeLock n v g s) := by
  unfold takeLock
  split
  · rfl
  · next j _ =>
    have written : OnLocks s ((s.setLock j
      { state := .held, volume := v, granule := g, holder := n, age := 0, owed := false }).setRetry n 0) := rfl
    exact written.trans (dropClaims_onLocks ..)

theorem lockAtAdmission_onLocks (kind : ReqKind) (n : NodePort) (v : Volume) (g : Nat) (s : State) :
    OnLocks s (lockAtAdmission kind n v g s) := by
  cases kind with
  | read => rfl
  | write => rfl
  | lockread => exact takeLock_onLocks ..
  | unlockwrite =>
    unfold lockAtAdmission giveLock
    dsimp only
    split
    · rfl
    · split <;> rfl

/-! ## Admitted heads (R77) -/

/-- The blocks of the state that an admission leaves, each from the operation that writes it. -/
structure AdmittedBlocks (n : NodePort) (k : SlotIdx) (ps : List Piece) (sl : Slot) (s t : State) : Prop where
  slots : (t.desk n).slots = (s.desk n).slots.set k.val (sl.admitted ps.length)
  waitList : (t.desk n).waitList = (s.desk n).waitList.filter (· != k)
  otherDesks : ∀ m, m ≠ n → t.desk m = s.desk m
  stages : t.stages = (createPieces n k sl.kind sl.cls ps sl.data s).stages
  dispatch : t.dispatch = (createPieces n k sl.kind sl.cls ps sl.data s).dispatch
  meter : t.meter = (charge n sl.length s).meter
  lending : t.lending = (raiseInFlight sl.volume ps.length s).lending
  lock : t.lock = (lockAtAdmission sl.kind n sl.volume (sl.offset / 8) (charge n sl.length s)).lock
  management : t.management =
    (lockAtAdmission sl.kind n sl.volume (sl.offset / 8) (charge n sl.length s)).management
  loan : t.loan = s.loan
  diskLinks : t.link.disks = s.link.disks

theorem admitHead_blocks (n : NodePort) (k : SlotIdx) (ps : List Piece) (s : State) :
    AdmittedBlocks n k ps (s.slot n k) s (admitHead n k ps s) := by
  obtain ⟨sl, slot⟩ : ∃ sl, sl = s.slot n k := ⟨_, rfl⟩
  obtain ⟨c, charged⟩ : ∃ c, c = charge n sl.length s := ⟨_, rfl⟩
  obtain ⟨l, locked⟩ : ∃ l, l = lockAtAdmission sl.kind n sl.volume (sl.offset / 8) c := ⟨_, rfl⟩
  obtain ⟨p, created⟩ : ∃ p, p = createPieces n k sl.kind sl.cls ps sl.data l := ⟨_, rfl⟩
  have eq : admitHead n k ps s = admitSlot n k ps.length (raiseInFlight sl.volume ps.length p) := by
    rw [created, locked, charged, slot]
    rfl
  obtain ⟨cLink, cAdmission, cLending, cLoan, cStages, cDispatch, cLock, cManagement, -, -⟩ := charge_frame n sl.length s
  rw [← charged] at cLink cAdmission cLending cLoan cStages cDispatch cLock cManagement
  have lLink : l.link.disks = c.link.disks := by
    rw [locked]
    rw [lockAtAdmission_onLocks sl.kind n sl.volume (sl.offset / 8) c]
  obtain ⟨lAdmission, lLending, lLoan, lMeter, lStages, lDispatch, -, -⟩ :=
    lockAtAdmission_frame sl.kind n sl.volume (sl.offset / 8) c
  rw [← locked] at lAdmission lLending lLoan lMeter lStages lDispatch
  obtain ⟨pLink, pAdmission, pLending, pLoan, pMeter, pLock, pManagement, -, -⟩ :=
    createPieces_frame n k sl.kind sl.cls ps sl.data l
  rw [← created] at pLink pAdmission pLending pLoan pMeter pLock pManagement
  obtain ⟨stages, dispatch⟩ := createPieces_congr (lStages.trans cStages) (lDispatch.trans cDispatch) n k sl.kind sl.cls ps
    sl.data
  rw [← created] at stages dispatch
  have admission : p.admission = s.admission := pAdmission.trans (lAdmission.trans cAdmission)
  have desk (m : NodePort) : (raiseInFlight sl.volume ps.length p).desk m = s.desk m := by
    rw [State.desk, (raiseInFlight_frame ..).2.1, admission]
    rfl
  have lending : p.lending = s.lending := pLending.trans (lLending.trans cLending)
  have slot' : (raiseInFlight sl.volume ps.length p).slot n k = sl := by rw [State.slot, desk, slot]; rfl
  rw [eq, ← slot]
  refine ⟨?_, ?_, fun m other => ?_, stages, dispatch, pMeter.trans lMeter |>.trans (by rw [charged]), ?_,
    pLock.trans (by rw [locked, charged]), pManagement.trans (by rw [locked, charged]),
    pLoan.trans (lLoan.trans cLoan), ?_⟩
  · unfold admitSlot
    rw [State.setDesk_desk, slot', desk]
  · unfold admitSlot
    rw [State.setDesk_desk, desk]
  · unfold admitSlot
    rw [State.setDesk_desk_ne _ _ _ _ other, desk]
  · change (raiseInFlight sl.volume ps.length p).lending = _
    simp only [raiseInFlight, State.setVolume, State.volume, lending]
  · change p.link.disks = _
    rw [pLink, lLink]
    exact congrArg LinkBlock.disks cLink

theorem AdmittedBlocks.congr {n : NodePort} {k : SlotIdx} {ps : List Piece} {sl : Slot} {s t : State}
    (blocks : AdmittedBlocks n k ps sl s t) (due : Nat) :
    AdmittedBlocks n k ps sl s (t.setDesk n { t.desk n with attemptsDue := due }) where
  slots := by rw [State.setDesk_desk]; exact blocks.slots
  waitList := by rw [State.setDesk_desk]; exact blocks.waitList
  otherDesks m other := (State.setDesk_desk_ne _ _ _ _ other).trans (blocks.otherDesks m other)
  stages := blocks.stages
  dispatch := blocks.dispatch
  meter := blocks.meter
  lending := blocks.lending
  lock := blocks.lock
  management := blocks.management
  loan := blocks.loan
  diskLinks := blocks.diskLinks

theorem charge_meterOf (n : NodePort) (length : Nat) (s : State) (m : NodePort) :
    (charge n length s).meterOf m =
      if m = n ∧ (s.meterOf n).metered = true then { s.meterOf n with credit := (s.meterOf n).credit - length }
      else s.meterOf m := by
  unfold charge
  by_cases metered : (s.meterOf n).metered = true
  · rw [if_pos metered, State.setMeter_meterOf_eq]
    exact if_congr (by simp [metered]) rfl rfl
  · rw [if_neg metered, if_neg fun h => metered h.2]

theorem charge_tallies (n : NodePort) (length : Nat) (s : State) :
    (charge n length s).meter.tallies = s.meter.tallies := by
  unfold charge
  split <;> rfl

/-- Settles O30: the head waits, or it is admitted, with the parts of its request and the stages that they need. -/
theorem passedAttemptsAdmitTheHead : Obligations.PassedAttemptsAdmitTheHead := by
  unfold Obligations.PassedAttemptsAdmitTheHead
  refine ⟨fun n k s s' ps owed passes => ?_, fun n k s owed head metered short => ?_,
    fun n k s s' ps owed reaches translated locks short => ?_,
    fun n k kind c p ps data s => ⟨rfl, rfl, rfl⟩,
    fun o L pos => ⟨cutRequest_length o L pos, fun le => ?_, cutRequest_sum o L pos, fun j within => ?_⟩,
    fun n k kind ps p s => ⟨rfl, fun needs => ?_, fun needs => ?_⟩⟩
  · have head : s.headOf n = some k := by simpa using passes.head
    obtain ⟨reaches, translated⟩ := passes.reaches
    have judged := judgeHead_of_passed reaches translated passes.locks
    rw [if_neg (not_lt.mpr passes.stages)] at judged
    obtain ⟨due, noted⟩ := noteHead_eq n (attempted n s) (admitHead n k ps s')
    refine ⟨_, (exec_attempt owed head).trans (congrArg Host.Outcome.next ((congrArg _ judged).trans noted)), ?_⟩
    have read := (State.translated_mapRead translated)
    have touched := read.onMap
    have admission : s'.admission = (attempted n s).admission := by rw [touched]
    have desk (m : NodePort) : s'.desk m = (attempted n s).desk m := by rw [State.desk, admission]; rfl
    have slot (l : SlotIdx) : s'.slot n l = s.slot n l := by rw [← attempted_slot n s, State.slot, desk]; rfl
    have blocks := (admitHead_blocks n k ps s').congr due
    rw [slot] at blocks
    generalize (admitHead n k ps s').setDesk n { (admitHead n k ps s').desk n with attemptsDue := due } = t at blocks ⊢
    have meterOf (m : NodePort) : s'.meterOf m = s.meterOf m := by rw [State.meterOf, touched]; rfl
    have volume (v : Volume) : s'.volume v = s.volume v := by rw [State.volume, touched]; rfl
    have lock : s'.lock = s.lock := by rw [touched]; rfl
    have charged : (charge n (s.slot n k).length s').lock = s.lock := by rw [(charge_frame ..).2.2.2.2.2.2.1, lock]
    have locks := passes.locks
    rw [attempted_slot] at locks
    refine ⟨?_, fun l other => ?_, fun m other => ?_, ?_, blocks.stages, blocks.dispatch, fun m => ?_, fun v => ?_,
      fun lockread => ?_, fun unlockwrite => ?_, fun plain => ?_, ?_, ?_, ?_, ?_⟩
    · rw [State.slot, blocks.slots]
      exact Vector.getElem_set_self _
    · have : k.val ≠ l.val := fun h => other (Fin.ext h.symm)
      rw [State.slot, blocks.slots, Vector.getElem_set_ne _ _ this, ← State.slot, slot]
    · rw [blocks.otherDesks m other, desk, attempted_desk, if_neg other]
    · rw [blocks.waitList, desk, attempted_desk, if_pos rfl]
    · rw [State.meterOf, blocks.meter, ← State.meterOf, charge_meterOf, meterOf, meterOf]
    · rw [State.volume, blocks.lending, ← State.volume, raiseInFlight, State.setVolume_volume_eq, volume, volume]
      split
      · next same => subst same; rfl
      · rfl
    · have passed : lockreadCheck n (s.slot n k).volume ((s.slot n k).offset / 8) (charge n (s.slot n k).length s') =
          none := by
        rw [lockread] at locks
        rw [← locks]
        simp only [lockCheck, lockreadCheck, State.lockOn, State.lockAt, charged, lock]
      obtain ⟨j, free, lowest⟩ := State.lowestFreeLock passed
      have taken := takeLock_lockTaken (n := n) (v := (s.slot n k).volume) (g := (s.slot n k).offset / 8) free lowest
      have at_lock := blocks.lock
      have at_management := blocks.management
      rw [lockread] at at_lock at_management
      refine taken.congr charged.symm ?_ ?_ at_lock at_management
      · rw [(charge_frame ..).2.2.2.1, touched]
        rfl
      · rw [State.settings, State.settings, (charge_frame ..).2.2.2.2.2.2.2.1]
        exact read.settings.symm
    · have passed : unlockwriteCheck n (s.slot n k).volume ((s.slot n k).offset / 8)
          (charge n (s.slot n k).length s') = none := by
        rw [unlockwrite] at locks
        rw [← locks]
        simp only [lockCheck, unlockwriteCheck, State.lockOn, State.lockAt, charged, lock]
      obtain ⟨j, on, holder, held, volumeHere, granule⟩ := State.heldLock passed
      have at_lock := blocks.lock
      rw [unlockwrite, lockAtAdmission, giveLock_given on holder] at at_lock
      have lockAt (l : LockIdx) : (charge n (s.slot n k).length s').lockAt l = s.lockAt l := by
        rw [State.lockAt, charged]
        rfl
      have written (l : LockIdx) : t.lockAt l = if l = j then (s.lockAt j).freed else s.lockAt l := by
        rw [State.lockAt, at_lock, ← State.lockAt, State.setLock_lockAt_eq, lockAt, lockAt]
      rw [lockAt] at held volumeHere granule holder
      refine ⟨j, held, holder, volumeHere, granule, (written j).trans (if_pos rfl),
        fun l other => (written l).trans (if_neg other), ?_⟩
      rw [at_lock, State.setLock, charged]
    · have at_lock := blocks.lock
      rcases plain with plain | plain <;> rw [plain] at at_lock <;> exact at_lock.trans charged
    · rw [blocks.loan, touched]
      rfl
    · rw [blocks.meter, charge_tallies, touched]
      rfl
    · rw [blocks.diskLinks, touched]
      rfl
    · have created := (createPieces_onLanes n k (s.slot n k).kind (s.slot n k).cls ps (s.slot n k).data s').trans
        (.of_dispatch blocks.dispatch)
      have before : OnLanes s s' := .of_dispatch (by rw [touched]; rfl)
      exact (before.trans created).disks
  · have judged := judgeHead_of_short (n := n) (k := k) (s := attempted n s)
      (by rw [attempted_slot]; simpa [Meter.short] using ⟨metered, short⟩)
    have same : (waitHead n k .credit (attempted n s)).headOf n = some k := by
      rw [State.headOf, waitHead, State.setSlot, State.setDesk_desk]
      exact (attempted_headOf n s n).trans head
    rw [exec_attempt owed head, judged, noteHead_of_same (by simpa using head) same, waitHead, attempted_slot]
  · have judged := judgeHead_of_passed reaches translated (by rw [attempted_slot]; exact locks)
    rw [attempted_slot, if_pos short] at judged
    have admission : s'.admission = (attempted n s).admission := by
      rw [(State.translated_mapRead translated).onMap]
    have desk (m : NodePort) : s'.desk m = (attempted n s).desk m := by rw [State.desk, admission]; rfl
    have head : s.headOf n = some k := by simpa using reaches.head
    have same : (waitHead n k .stages s').headOf n = some k := by
      rw [State.headOf, waitHead, State.setSlot, State.setDesk_desk, desk]
      exact (attempted_headOf n s n).trans head
    rw [exec_attempt owed head, judged, noteHead_of_same (by simpa using head) same, waitHead]
    have slot : s'.slot n k = s.slot n k := by rw [← attempted_slot n s, State.slot, desk]; rfl
    rw [slot]
  · rw [cutRequest_length o L pos]
    omega
  · refine ⟨_, cutRequest_getElem? within, rfl, cutFirst_add o j, cutFirst_add_count pos⟩
  · rw [stagesNeeded_append, if_pos (by simpa using needsStage_iff.mp needs)]
  · rw [stagesNeeded_append, if_neg (by simpa using mt needsStage_iff.mpr needs), Nat.add_zero]

end

end Sys2Proof.Machine
end

section
/-! PROOFS. Withdrawal at one stage (R124, R125): what is left of a stage when requests have left it, one after the
other. -/

namespace Sys2Proof.Machine

/-- The requests that E names, and the request in slot k of node n. -/
def adding (E : NodePort → SlotIdx → Bool) (n : NodePort) (k : SlotIdx) (m : NodePort) (l : SlotIdx) : Bool :=
  E m l || (m == n && l == k)

theorem adding_eq_true {E : NodePort → SlotIdx → Bool} {n m : NodePort} {k l : SlotIdx} :
    adding E n k m l = true ↔ E m l = true ∨ m = n ∧ l = k := by
  simp [adding]

/-- Some waiter, or the owner, is of a request that E names. -/
def Stage.servesAny (st : Stage) (E : NodePort → SlotIdx → Bool) : Bool :=
  match st.kind with
  | .fetch => st.waiters.any fun w => E w.node w.slot
  | .store => st.owner.any fun o => E o.node o.slot

/-- The stage without the waiters that E names, or without its owner. -/
def Stage.withoutAny (st : Stage) (E : NodePort → SlotIdx → Bool) : Stage :=
  match st.kind with
  | .fetch => { st with waiters := st.waiters.filter fun w => !E w.node w.slot }
  | .store => { st with owner := none }

/-- What becomes of a stage that pieces have left. -/
def Stage.settled (st : Stage) : Stage :=
  if st.waiters ≠ [] ∨ st.owner ≠ none then st
  else if st.state = .queued ∨ st.state = .retrying then st.emptied
  else { st with abandoned := true }

variable {st : Stage} {E : NodePort → SlotIdx → Bool} {n : NodePort} {k : SlotIdx}

theorem Stage.withdrawn_eq (st : Stage) (E : NodePort → SlotIdx → Bool) :
    st.withdrawn E = if st.servesAny E = false ∨ st.state = .free then st else (st.withoutAny E).settled := by
  unfold Stage.withdrawn Stage.servesAny Stage.withoutAny Stage.settled
  cases st.kind <;> rfl

theorem Stage.withdrawn_of_free (free : st.state = .free) : st.withdrawn E = st := by
  rw [Stage.withdrawn_eq, if_pos (.inr free)]

theorem Stage.withdrawn_of_beside (beside : st.servesAny E = false) : st.withdrawn E = st := by
  rw [Stage.withdrawn_eq, if_pos (.inl beside)]

theorem Stage.withdrawn_of_hit (hit : st.servesAny E = true) (used : st.state ≠ .free) :
    st.withdrawn E = (st.withoutAny E).settled := by
  rw [Stage.withdrawn_eq, if_neg (by simp [hit, used])]

/-- Where no request is named, the stage stays. -/
theorem Stage.withdrawn_none (st : Stage) : st.withdrawn (fun _ _ => false) = st := by
  refine Stage.withdrawn_of_beside ?_
  unfold Stage.servesAny
  split <;> simp

/-- A stage that is not FREE serves a request that E names, or serves only others. -/
theorem Stage.servesAny_iff (used : st.state ≠ .free) :
    st.servesAny E = true ↔ ∃ n k, E n k = true ∧ st.serves n k = true := by
  have used' : (st.state != .free) = true := by simpa using used
  unfold Stage.servesAny Stage.serves
  rw [used']
  cases st.kind with
  | fetch =>
    simp only [List.any_eq_true, Bool.true_and, Waiter.ofRequest, Bool.and_eq_true, beq_iff_eq]
    constructor
    · rintro ⟨w, mem, named⟩
      exact ⟨w.node, w.slot, named, w, mem, rfl, rfl⟩
    · rintro ⟨n, k, named, w, mem, rfl, rfl⟩
      exact ⟨w, mem, named⟩
  | store =>
    simp only [Option.any_eq_true, Bool.true_and, beq_iff_eq]
    constructor
    · rintro ⟨o, owner, named⟩
      exact ⟨o.node, o.slot, named, owner⟩
    · rintro ⟨n, k, named, owner⟩
      exact ⟨_, owner, named⟩

theorem Stage.serves_of_free (free : st.state = .free) (n : NodePort) (k : SlotIdx) : st.serves n k = false := by
  simp [Stage.serves, free]

theorem Stage.withoutAny_fields (st : Stage) (E : NodePort → SlotIdx → Bool) :
    (st.withoutAny E).state = st.state ∧ (st.withoutAny E).disk = st.disk ∧ (st.withoutAny E).kind = st.kind ∧
      (st.withoutAny E).emptied = st.emptied ∧ (st.withoutAny E).owed = st.owed ∧
      (st.withoutAny E).generation = st.generation := by
  unfold Stage.withoutAny
  split <;> exact ⟨rfl, rfl, rfl, rfl, rfl, rfl⟩

theorem Stage.settled_cases (st : Stage) :
    (st.deserted = false ∧ st.settled = st) ∨
      st.deserted = true ∧ ((st.state = .queued ∨ st.state = .retrying) ∧ st.settled = st.emptied ∨
        ¬(st.state = .queued ∨ st.state = .retrying) ∧ st.settled = { st with abandoned := true }) := by
  unfold Stage.settled
  by_cases deserted : st.deserted = true
  · have nobody := Stage.deserted_iff.mp deserted
    rw [if_neg (by simp [nobody])]
    by_cases lane : st.state = .queued ∨ st.state = .retrying
    · exact .inr ⟨deserted, .inl ⟨lane, if_pos lane⟩⟩
    · exact .inr ⟨deserted, .inr ⟨lane, if_neg lane⟩⟩
  · refine .inl ⟨by simpa using deserted, if_pos ?_⟩
    by_contra nobody
    rw [not_or, not_not, not_not] at nobody
    exact deserted (Stage.deserted_iff.mpr nobody)

theorem Stage.serves_of_deserted (deserted : st.deserted = true) (n : NodePort) (k : SlotIdx) :
    st.serves n k = false := by
  obtain ⟨waiters, owner⟩ := Stage.deserted_iff.mp deserted
  unfold Stage.serves
  cases st.kind <;> simp [waiters, owner]

/-- What settles serves whom it served. -/
theorem Stage.settled_serves (st : Stage) (n : NodePort) (k : SlotIdx) : st.settled.serves n k = st.serves n k := by
  rcases st.settled_cases with ⟨-, eq⟩ | ⟨deserted, ⟨-, eq⟩ | ⟨-, eq⟩⟩ <;> rw [eq]
  · rw [Stage.serves_of_deserted deserted]
    rfl
  · rfl

theorem Stage.settled_emptied (st : Stage) : st.settled.emptied = st.emptied := by
  rcases st.settled_cases with ⟨-, eq⟩ | ⟨-, ⟨-, eq⟩ | ⟨-, eq⟩⟩ <;> rw [eq] <;> rfl

/-- A detached piece leaves a stage that is not FREE to settle. -/
theorem Stage.detached_eq_settled (used : st.state ≠ .free) (n : NodePort) (k : SlotIdx) :
    st.detached n k = (st.without n k).settled := by
  obtain ⟨state, -, -, -, freed, -⟩ := st.without_fields n k
  rcases st.detached_cases n k with ⟨stays, eq⟩ | ⟨deserted, ⟨free, -⟩ | ⟨lane, eq⟩ | ⟨disk, eq⟩⟩
  · rcases (st.without n k).settled_cases with ⟨-, eq'⟩ | ⟨deserted, -⟩
    · rw [eq, eq']
    · rw [stays] at deserted; cases deserted
  · exact absurd free used
  · rcases (st.without n k).settled_cases with ⟨stays, -⟩ | ⟨-, ⟨-, eq'⟩ | ⟨not, -⟩⟩
    · rw [stays] at deserted; cases deserted
    · rw [eq, eq', ← Stage.freed_eq_emptied, freed]
    · rw [state] at not; exact absurd lane not
  · rcases (st.without n k).settled_cases with ⟨stays, -⟩ | ⟨-, ⟨lane, -⟩ | ⟨-, eq'⟩⟩
    · rw [stays] at deserted; cases deserted
    · rw [state] at lane
      rcases disk with h | h | h <;> rw [h] at lane <;> simp at lane
    · rw [eq, eq']

/-! ## One more request leaves -/

theorem Stage.withoutAny_adding (st : Stage) (E : NodePort → SlotIdx → Bool) (n : NodePort) (k : SlotIdx) :
    (st.withoutAny E).without n k = st.withoutAny (adding E n k) := by
  unfold Stage.withoutAny Stage.without
  cases kind : st.kind with
  | fetch =>
    simp only [List.filter_filter]
    congr 1
    refine List.filter_congr fun w _ => ?_
    simp [adding, Waiter.ofRequest, Bool.and_comm]
  | store => rfl

theorem Stage.without_of_beside (beside : st.servesAny E = false) (n : NodePort) (k : SlotIdx) :
    st.without n k = st.withoutAny (adding E n k) := by
  rw [← Stage.withoutAny_adding]
  unfold Stage.servesAny at beside
  unfold Stage.withoutAny Stage.without
  cases kind : st.kind with
  | fetch =>
    rw [kind] at beside
    simp only
    have all : st.waiters.filter (fun w => !E w.node w.slot) = st.waiters := by
      rw [List.filter_eq_self]
      simpa using beside
    rw [all]
  | store => rfl

theorem Stage.servesAny_adding (used : st.state ≠ .free) :
    st.servesAny (adding E n k) = (st.servesAny E || st.serves n k) := by
  rw [Bool.eq_iff_iff, Bool.or_eq_true, Stage.servesAny_iff used, Stage.servesAny_iff used]
  simp only [adding_eq_true]
  constructor
  · rintro ⟨m, l, named | ⟨rfl, rfl⟩, serves⟩
    · exact .inl ⟨m, l, named, serves⟩
    · exact .inr serves
  · rintro (⟨m, l, named, serves⟩ | serves)
    · exact ⟨m, l, .inl named, serves⟩
    · exact ⟨n, k, .inr ⟨rfl, rfl⟩, serves⟩

theorem Stage.withoutAny_of_unserved (used : st.state ≠ .free) (unserved : (st.withoutAny E).serves n k = false) :
    (st.withoutAny E).without n k = st.withoutAny E := by
  have used' : (st.state != .free) = true := by simpa using used
  unfold Stage.serves Stage.withoutAny at unserved
  unfold Stage.without Stage.withoutAny
  cases kind : st.kind with
  | fetch =>
    simp only [kind, used', Bool.true_and] at unserved
    simp only
    congr 1
    rw [List.filter_eq_self]
    simpa using unserved
  | store => rfl

/-- One more request that leaves its stages leaves each as if all had left it together. -/
theorem Stage.withdrawn_adding (st : Stage) (E : NodePort → SlotIdx → Bool) (n : NodePort) (k : SlotIdx) :
    (if (st.withdrawn E).serves n k = true then (st.withdrawn E).detached n k else st.withdrawn E) =
      st.withdrawn (adding E n k) := by
  by_cases free : st.state = .free
  · rw [Stage.withdrawn_of_free free, Stage.withdrawn_of_free free, Stage.serves_of_free free]
    exact if_neg Bool.false_ne_true
  cases hit : st.servesAny E with
  | false =>
    rw [Stage.withdrawn_of_beside hit]
    cases serves : st.serves n k with
    | true =>
      rw [if_pos rfl, Stage.detached_eq_settled free, Stage.without_of_beside hit,
        Stage.withdrawn_of_hit (by rw [Stage.servesAny_adding free, hit, serves]; rfl) free]
    | false =>
      rw [if_neg Bool.false_ne_true,
        Stage.withdrawn_of_beside (by rw [Stage.servesAny_adding free, hit, serves]; rfl)]
  | true =>
    have state := (st.withoutAny_fields E).1
    rw [Stage.withdrawn_of_hit hit free, Stage.settled_serves,
      Stage.withdrawn_of_hit (by rw [Stage.servesAny_adding free, hit]; rfl) free, ← Stage.withoutAny_adding]
    cases serves : (st.withoutAny E).serves n k with
    | false => rw [if_neg Bool.false_ne_true, Stage.withoutAny_of_unserved free serves]
    | true =>
      rw [if_pos rfl]
      rcases (st.withoutAny E).settled_cases with ⟨-, eq⟩ | ⟨deserted, -⟩
      · rw [eq, Stage.detached_eq_settled (by rw [state]; exact free)]
      · rw [Stage.serves_of_deserted deserted] at serves
        cases serves

/-- A stage serves on whom no withdrawal names. -/
theorem Stage.withdrawn_serves (st : Stage) (E : NodePort → SlotIdx → Bool) (n : NodePort) (k : SlotIdx) :
    (st.withdrawn E).serves n k = (st.serves n k && !E n k) := by
  by_cases free : st.state = .free
  · rw [Stage.withdrawn_of_free free, Stage.serves_of_free free]
    rfl
  have used : (st.state != .free) = true := by simpa using free
  cases hit : st.servesAny E with
  | false =>
    rw [Stage.withdrawn_of_beside hit]
    cases serves : st.serves n k with
    | false => rfl
    | true =>
      have : E n k = false := by
        rw [← Bool.not_eq_true]
        intro named
        rw [(Stage.servesAny_iff free).mpr ⟨n, k, named, serves⟩] at hit
        cases hit
      rw [this]
      rfl
  | true =>
    rw [Stage.withdrawn_of_hit hit free, Stage.settled_serves, Bool.eq_iff_iff]
    unfold Stage.servesAny at hit
    unfold Stage.withoutAny Stage.serves
    cases kind : st.kind with
    | fetch =>
      simp only [used, Bool.true_and, List.any_filter, List.any_eq_true, Waiter.ofRequest, Bool.and_eq_true, beq_iff_eq]
      constructor
      · rintro ⟨w, mem, kept, rfl, rfl⟩
        exact ⟨⟨w, mem, rfl, rfl⟩, kept⟩
      · rintro ⟨⟨w, mem, rfl, rfl⟩, kept⟩
        exact ⟨w, mem, kept, rfl, rfl⟩
    | store =>
      rw [kind] at hit
      obtain ⟨o, owner, named⟩ := Option.any_eq_true _ _ |>.mp hit
      simp only [used, Bool.true_and, owner]
      constructor
      · intro h; simp at h
      · intro h
        simp only [Bool.and_eq_true, beq_iff_eq, Option.some.injEq] at h
        obtain ⟨rfl, kept⟩ := h
        simp [named] at kept

theorem Stage.withdrawn_emptied (st : Stage) (E : NodePort → SlotIdx → Bool) :
    (st.withdrawn E).emptied = st.emptied := by
  rw [Stage.withdrawn_eq]
  split
  · rfl
  · rw [Stage.settled_emptied, (st.withoutAny_fields E).2.2.2.1]

/-- What a withdrawal leaves of a stage: itself, or its place in the pool freed, or its state as it was. -/
theorem Stage.withdrawn_fields (st : Stage) (E : NodePort → SlotIdx → Bool) :
    (st.withdrawn E).disk = st.disk ∧ (st.withdrawn E).kind = st.kind ∧ (st.withdrawn E).generation = st.generation ∧
      ((st.withdrawn E).state = st.state ∧ (st.withdrawn E).owed = st.owed ∨
        (st.state = .queued ∨ st.state = .retrying) ∧ st.withdrawn E = st.emptied ∧
          ∀ n k, st.serves n k = true → E n k = true) := by
  by_cases free : st.state = .free
  · rw [Stage.withdrawn_of_free free]
    exact ⟨rfl, rfl, rfl, .inl ⟨rfl, rfl⟩⟩
  cases hit : st.servesAny E with
  | false =>
    rw [Stage.withdrawn_of_beside hit]
    exact ⟨rfl, rfl, rfl, .inl ⟨rfl, rfl⟩⟩
  | true =>
    obtain ⟨state, disk, kind, emptied, owed, generation⟩ := st.withoutAny_fields E
    rcases (st.withoutAny E).settled_cases with ⟨-, eq⟩ | ⟨deserted, ⟨lane, eq⟩ | ⟨-, eq⟩⟩
    · rw [Stage.withdrawn_of_hit hit free, eq]
      exact ⟨disk, kind, generation, .inl ⟨state, owed⟩⟩
    · rw [Stage.withdrawn_of_hit hit free, eq, emptied]
      refine ⟨rfl, rfl, rfl, .inr ⟨by rwa [state] at lane, rfl, fun n k serves => ?_⟩⟩
      have left := st.withdrawn_serves E n k
      rw [Stage.withdrawn_of_hit hit free, eq, serves, Bool.true_and] at left
      have : (st.withoutAny E).emptied.serves n k = false := rfl
      rw [this] at left
      simpa using left.symm
    · rw [Stage.withdrawn_of_hit hit free, eq]
      exact ⟨disk, kind, generation, .inl ⟨state, owed⟩⟩

end Sys2Proof.Machine
end

section
/-! PROOFS. The end of one request (R81, R83, R85): its slot, its stages, its lanes and its frames. -/

namespace Sys2Proof.Machine

/-! ## Stages that become FREE (R106, R112, R135) -/

/-- From s to t, stages became FREE and no other did; those left their chains and lanes, and all else of chains, lanes
and disk records stands. -/
structure Shrinks (s t : State) : Prop where
  free : ∀ i, (s.stage i).state = .free → (t.stage i).state = .free
  disk : ∀ i, (t.stage i).disk = (s.stage i).disk
  order : t.stages.order = s.stages.order.filter fun i => (s.stage i).state == .free || (t.stage i).state != .free
  disks : OnLanes s t
  lanes : ∀ d, LanesLeft d s t

theorem StageState.free_or_used (x : StageState) : (x == .free || x != .free) = true := by cases x <;> rfl

section
variable {s t u : State}

theorem Shrinks.of_stay (stages : t.stages.order = s.stages.order) (dispatch : t.dispatch = s.dispatch)
    (stay : ∀ i, (t.stage i).state = (s.stage i).state ∧ (t.stage i).disk = (s.stage i).disk) : Shrinks s t where
  free i free := (stay i).1.trans free
  disk i := (stay i).2
  order := by
    rw [stages]
    symm
    rw [List.filter_eq_self]
    intro i _
    rw [(stay i).1]
    cases (s.stage i).state <;> rfl
  disks := .of_dispatch dispatch
  lanes d c := by
    have disk : t.disk d = s.disk d := by rw [State.disk, dispatch]; rfl
    rw [disk]
    symm
    rw [List.filter_eq_self]
    intro i _
    rw [(stay i).1]
    cases (s.stage i).state <;> simp

theorem Shrinks.of_eq (stages : t.stages = s.stages) (dispatch : t.dispatch = s.dispatch) : Shrinks s t :=
  .of_stay (by rw [stages]) dispatch fun i => by
    rw [State.stage, stages]
    exact ⟨rfl, rfl⟩

theorem Shrinks.refl (s : State) : Shrinks s s := .of_eq rfl rfl

theorem Shrinks.trans (first : Shrinks s t) (second : Shrinks t u) : Shrinks s u where
  free i free := second.free i (first.free i free)
  disk i := (second.disk i).trans (first.disk i)
  order := by
    rw [second.order, first.order, List.filter_filter]
    refine List.filter_congr fun i _ => ?_
    have stays := first.free i
    have stays' := second.free i
    rw [Bool.eq_iff_iff]
    simp only [Bool.and_eq_true, Bool.or_eq_true, beq_iff_eq, bne_iff_ne]
    tauto
  disks := first.disks.trans second.disks
  lanes d c := by
    rw [second.lanes d c, first.lanes d c, List.filter_filter]
    refine List.filter_congr fun i _ => ?_
    have stays := first.free i
    have stays' := second.free i
    rw [Bool.eq_iff_iff, first.disk i]
    simp only [Bool.and_eq_true, Bool.or_eq_true, beq_iff_eq, bne_iff_ne]
    tauto

theorem freeStage_onLanes (i : StageIdx) (s : State) : OnLanes s (freeStage i s) := by
  refine ⟨fun d => ?_⟩
  rw [freeStage_disk]
  split <;> exact ⟨_, rfl⟩

theorem freeStage_shrinks {i : StageIdx} (used : (s.stage i).state ≠ .free) : Shrinks s (freeStage i s) where
  free j free := by
    rw [freeStage_stage]
    split
    · rfl
    · exact free
  disk j := by
    rw [freeStage_stage]
    split
    · next h => subst h; rfl
    · rfl
  order := by
    rw [freeStage_order]
    refine List.filter_congr fun j _ => ?_
    rw [freeStage_stage]
    by_cases here : j = i
    · subst here
      have : (s.stage j).freed.state = .free := rfl
      simp [used, this]
    · simp [here, StageState.free_or_used]
  disks := freeStage_onLanes i s
  lanes d c := by
    rw [freeStage_disk]
    by_cases disk : d = (s.stage i).disk
    · rw [if_pos disk, tableMap_getElem]
      refine List.filter_congr fun j _ => ?_
      rw [freeStage_stage]
      by_cases here : j = i
      · subst here
        have : (s.stage j).freed.state = .free := rfl
        simp [used, this, disk]
      · simp [here, Bool.or_assoc, StageState.free_or_used]
    · rw [if_neg disk]
      symm
      rw [List.filter_eq_self]
      intro j _
      rw [freeStage_stage]
      by_cases here : j = i
      · subst here
        simp [Ne.symm disk]
      · simp [here, Bool.or_assoc, StageState.free_or_used]

theorem detachPiece_stage (n : NodePort) (k : SlotIdx) (i j : StageIdx) (s : State) :
    (detachPiece n k i s).stage j = if j = i then (s.stage i).detached n k else s.stage j := by
  rw [detachPiece_eq]
  split
  · next freed =>
    rw [freeStage_stage]
    rcases (s.stage i).detached_cases n k with ⟨stays, -⟩ | ⟨-, ⟨free, -⟩ | ⟨-, eq⟩ | ⟨disk, -⟩⟩
    · rw [stays] at freed; exact absurd freed.1 Bool.false_ne_true
    · rw [free] at freed; simp at freed
    · rw [eq]
    · rcases disk with h | h | h <;> rw [h] at freed <;> simp at freed
  · exact State.setStage_stage_eq ..

theorem Stage.detached_place (st : Stage) (n : NodePort) (k : SlotIdx)
    (not : ¬((st.without n k).deserted ∧ (st.state = .queued ∨ st.state = .retrying))) :
    (st.detached n k).state = st.state ∧ (st.detached n k).disk = st.disk := by
  obtain ⟨state, disk, -⟩ := st.without_fields n k
  rcases st.detached_cases n k with ⟨-, eq⟩ | ⟨deserted, ⟨-, eq⟩ | ⟨lane, -⟩ | ⟨-, eq⟩⟩
  · rw [eq]; exact ⟨state, disk⟩
  · rw [eq]; exact ⟨state, disk⟩
  · exact absurd ⟨deserted, lane⟩ not
  · rw [eq]; exact ⟨state, disk⟩

theorem detachPiece_shrinks (n : NodePort) (k : SlotIdx) (i : StageIdx) (s : State) : Shrinks s (detachPiece n k i s) := by
  rw [detachPiece_eq]
  split
  · next freed => exact freeStage_shrinks (by rcases freed.2 with h | h <;> simp [h])
  · next not =>
    refine .of_stay rfl rfl fun j => ?_
    rw [State.setStage_stage_eq]
    split
    · next h => subst h; exact (s.stage j).detached_place n k not
    · exact ⟨rfl, rfl⟩

end

/-! ## The end of a request -/

section
variable {s : State}

theorem State.mem_stagesServing {n : NodePort} {k : SlotIdx} {i : StageIdx} :
    i ∈ s.stagesServing n k ↔ (s.stage i).serves n k = true := mem_tableFilter

theorem State.stagesServing_nodup (s : State) (n : NodePort) (k : SlotIdx) : (s.stagesServing n k).Nodup := by
  rw [State.stagesServing, tableFilter_eq_filter]
  exact (List.nodup_finRange 256).filter _

theorem State.stagesServing_length (s : State) (n : NodePort) (k : SlotIdx) :
    (s.stagesServing n k).length = tableCount s.stages.table fun st => st.serves n k := by
  rw [State.stagesServing, tableFilter_eq_filter, tableCount, toList_eq_map_finRange, List.countP_map,
    List.countP_eq_length_filter]
  rfl

theorem withdrawPieces_stage (n : NodePort) (k : SlotIdx) (s : State) (i : StageIdx) :
    (withdrawPieces n k s).stage i = if (s.stage i).serves n k = true then (s.stage i).detached n k else s.stage i := by
  have folded := foldl_local (view := fun s i => s.stage i) (f := fun s i => detachPiece n k i s)
    (fun s i j other => by rw [detachPiece_stage, if_neg other])
    (fun s t i same => by rw [detachPiece_stage, detachPiece_stage, if_pos rfl, if_pos rfl, same])
    (s.stagesServing_nodup n k) s i
  simp only [State.mem_stagesServing, detachPiece_stage, if_true] at folded
  exact folded

theorem withdrawPieces_shrinks (n : NodePort) (k : SlotIdx) (s : State) : Shrinks s (withdrawPieces n k s) :=
  (foldl_frame Shrinks.refl (fun _ _ _ => Shrinks.trans) (fun s i => detachPiece_shrinks n k i s) _ _).trans
    (.of_eq rfl rfl)

theorem lowerInFlight_volume (v w : Volume) (c : Nat) (s : State) :
    (lowerInFlight v c s).volume w =
      { s.volume w with inFlight := (s.volume w).inFlight - (if w = v then c else 0) } := by
  rw [lowerInFlight, State.setVolume_volume_eq]
  split
  · next same => subst same; rfl
  · rfl

theorem withdrawPieces_volume (n : NodePort) (k : SlotIdx) (s : State) (v : Volume) :
    (withdrawPieces n k s).volume v =
      { s.volume v with
        inFlight := (s.volume v).inFlight -
          (if v = (s.slot n k).volume then tableCount s.stages.table fun st => st.serves n k else 0) } := by
  have kept : ((s.stagesServing n k).foldl (fun s i => detachPiece n k i s) s).volume v = s.volume v := by
    rw [State.volume, (detachPieces_frame ..).2.2.1]
    rfl
  rw [withdrawPieces, lowerInFlight_volume, kept, State.stagesServing_length]

end

end Sys2Proof.Machine
end

section
/-! PROOFS. Several requests that end together, and the stages that go with them (R81, R83, R122, R123): what they leave
of slots, wait lists, stages and lanes. -/

namespace Sys2Proof.Machine

/-! ## One request (R81, R83) -/

section
variable {s : State}

theorem freeSlot_desk (n : NodePort) (k : SlotIdx) (s : State) (m : NodePort) :
    (freeSlot n k s).desk m =
      if m = n then
        { s.desk n with
          slots := (s.desk n).slots.set k.val (s.slot n k).freed, waitList := (s.desk n).waitList.filter (· != k) }
      else s.desk m :=
  State.setDesk_desk_eq ..

theorem freeSlot_slot_eq (n : NodePort) (k : SlotIdx) (s : State) (m : NodePort) (l : SlotIdx) :
    (freeSlot n k s).slot m l = if m = n ∧ l = k then (s.slot n k).ended else s.slot m l := by
  by_cases same : m = n
  · subst same
    rw [freeSlot_slot]
    simp only [true_and]
  · rw [if_neg fun h => same h.1, State.slot, freeSlot_desk, if_neg same]
    rfl

/-- A request that ends without a frame. -/
theorem endRequest_none (n : NodePort) (k : SlotIdx) (s : State) :
    endRequest n k none s = freeSlot n k (withdrawPieces n k s) := rfl

/-- A request that ends with a status gets its DONE last. -/
theorem endRequest_some (n : NodePort) (k : SlotIdx) (status : Status) (s : State) :
    endRequest n k (some status) s =
      produceNode n (.done (s.slot n k).tag status (s.slot n k).delivered) (endRequest n k none s) := rfl

theorem endRequest_none_link (n : NodePort) (k : SlotIdx) (s : State) : (endRequest n k none s).link = s.link := by
  rw [endRequest_none]
  simp

theorem endRequest_none_desk (n : NodePort) (k : SlotIdx) (s : State) (m : NodePort) :
    (endRequest n k none s).desk m = (freeSlot n k s).desk m := by
  have kept : (withdrawPieces n k s).desk = s.desk := by
    funext m
    rw [State.desk, (withdrawPieces_frame n k s).2.1]
    rfl
  rw [endRequest_none, freeSlot_desk, freeSlot_desk, State.slot, kept]
  rfl

theorem endRequest_none_slot (n : NodePort) (k : SlotIdx) (s : State) (m : NodePort) (l : SlotIdx) :
    (endRequest n k none s).slot m l = if m = n ∧ l = k then (s.slot n k).ended else s.slot m l := by
  rw [State.slot, endRequest_none_desk]
  exact freeSlot_slot_eq n k s m l

theorem endRequest_none_stages (n : NodePort) (k : SlotIdx) (s : State) :
    (endRequest n k none s).stages = (withdrawPieces n k s).stages := by
  rw [endRequest_none]
  simp

theorem endRequest_none_stage (n : NodePort) (k : SlotIdx) (s : State) (i : StageIdx) :
    (endRequest n k none s).stage i =
      if (s.stage i).serves n k = true then (s.stage i).detached n k else s.stage i := by
  rw [State.stage, endRequest_none_stages]
  exact withdrawPieces_stage n k s i

theorem endRequest_none_shrinks (n : NodePort) (k : SlotIdx) (s : State) : Shrinks s (endRequest n k none s) :=
  (withdrawPieces_shrinks n k s).trans (.of_eq (endRequest_none_stages n k s) (by rw [endRequest_none]; simp))

theorem endRequest_none_volume (n : NodePort) (k : SlotIdx) (s : State) (v : Volume) :
    (endRequest n k none s).volume v =
      { s.volume v with
        inFlight := (s.volume v).inFlight -
          (if v = (s.slot n k).volume then tableCount s.stages.table fun st => st.serves n k else 0) } := by
  rw [← withdrawPieces_volume, endRequest_none, State.volume, (freeSlot_frame ..).2.1]
  rfl

theorem produceNode_link_disks (n : NodePort) (f : NodeFrame) (s : State) :
    (produceNode n f s).link.disks = s.link.disks := rfl

theorem freeStage_passes (i : StageIdx) (s : State) : (freeStage i s).stages.passesDue = s.stages.passesDue := rfl

theorem detachPiece_passes (n : NodePort) (k : SlotIdx) (i : StageIdx) (s : State) :
    (detachPiece n k i s).stages.passesDue = s.stages.passesDue := by
  rw [detachPiece_eq]
  split <;> rfl

theorem endRequest_none_passes (n : NodePort) (k : SlotIdx) (s : State) :
    (endRequest n k none s).stages.passesDue = s.stages.passesDue := by
  rw [endRequest_none_stages, withdrawPieces, (lowerInFlight_frame ..).2.2.2.2.1]
  exact foldl_keeps (fun s : State => s.stages.passesDue) (fun s i => detachPiece n k i s)
    (fun s i => detachPiece_passes n k i s) _ _

theorem lowerInFlight_map (v : Volume) (c : Nat) (s : State) : (lowerInFlight v c s).lending.map = s.lending.map := rfl

theorem endRequest_none_map (n : NodePort) (k : SlotIdx) (s : State) :
    (endRequest n k none s).lending.map = s.lending.map := by
  rw [endRequest_none, (freeSlot_frame ..).2.1, withdrawPieces, lowerInFlight_map, (detachPieces_frame ..).2.2.1]

end

/-! ## Several requests and stages -/

/-- From s to t the requests that E names have ended and the stages that G names are gone: slots, wait lists, stages,
chains and lanes are as that leaves them; volumes stand but for their pieces in flight, and node links gained frames. -/
structure Swept (G : StageIdx → Bool) (E : NodePort → SlotIdx → Bool) (s t : State) : Prop where
  slots : ∀ n k, t.slot n k = if E n k then (s.slot n k).ended else s.slot n k
  waitLists : ∀ n, (t.desk n).waitList = (s.desk n).waitList.filter fun k => !E n k
  attempts : ∀ n, (t.desk n).attemptsDue = (s.desk n).attemptsDue
  gone : ∀ i, G i = true → t.stage i = (s.stage i).emptied
  others : ∀ i, G i = false → t.stage i = (s.stage i).withdrawn E
  place : Shrinks s t
  passes : t.stages.passesDue = s.stages.passesDue
  nodes : ∀ n, MoreFrames (s.node n) (t.node n)
  diskLinks : t.link.disks = s.link.disks
  volumes : ∀ v, ∃ x, t.volume v = { s.volume v with inFlight := x }
  map : t.lending.map = s.lending.map

/-- A state that differs in nothing that ends of requests touch, but for frames at the tails of node links. -/
theorem Swept.of_same {s t : State} (admission : t.admission = s.admission) (lending : t.lending = s.lending)
    (stages : t.stages = s.stages) (dispatch : t.dispatch = s.dispatch) (diskLinks : t.link.disks = s.link.disks)
    (nodes : ∀ n, MoreFrames (s.node n) (t.node n)) : Swept (fun _ => false) (fun _ _ => false) s t where
  slots n k := by rw [State.slot, State.desk, admission]; rfl
  waitLists n := by
    rw [State.desk, admission]
    simp [State.desk]
  attempts n := by rw [State.desk, admission]; rfl
  gone i named := by cases named
  others i _ := by rw [Stage.withdrawn_none, State.stage, stages]; rfl
  place := .of_eq stages dispatch
  passes := by rw [stages]
  nodes := nodes
  diskLinks := diskLinks
  volumes v := ⟨(s.volume v).inFlight, by rw [State.volume, lending]; rfl⟩
  map := by rw [lending]

theorem Swept.refl (s : State) : Swept (fun _ => false) (fun _ _ => false) s s :=
  .of_same rfl rfl rfl rfl rfl fun _ => .refl _

section
variable {G : StageIdx → Bool} {E : NodePort → SlotIdx → Bool} {s t u : State}

theorem Slot.ended_ended (sl : Slot) : sl.ended.ended = sl.ended := rfl

theorem Stage.emptied_emptied (st : Stage) : st.emptied.emptied = st.emptied := rfl

/-- A stage that is gone, or from which requests were withdrawn, is itself emptied when it goes. -/
theorem Swept.emptied (swept : Swept G E s t) (i : StageIdx) : (t.stage i).emptied = (s.stage i).emptied := by
  cases named : G i with
  | true => rw [swept.gone i named, Stage.emptied_emptied]
  | false => rw [swept.others i named, Stage.withdrawn_emptied]

theorem Swept.serves_of_gone (swept : Swept G E s t) {i : StageIdx} (gone : G i = true) (n : NodePort) (k : SlotIdx) :
    (t.stage i).serves n k = false := by
  rw [swept.gone i gone]
  exact Stage.serves_of_free rfl n k

theorem Swept.serves_of_other (swept : Swept G E s t) {i : StageIdx} (other : G i = false) (n : NodePort)
    (k : SlotIdx) : (t.stage i).serves n k = ((s.stage i).serves n k && !E n k) := by
  rw [swept.others i other, Stage.withdrawn_serves]

/-- What touches no record of the sweep may follow. -/
theorem Swept.then_same (swept : Swept G E s t) (admission : u.admission = t.admission) (lending : u.lending = t.lending)
    (stages : u.stages = t.stages) (dispatch : u.dispatch = t.dispatch) (diskLinks : u.link.disks = t.link.disks)
    (nodes : ∀ n, MoreFrames (t.node n) (u.node n)) : Swept G E s u where
  slots n k := by rw [← swept.slots, State.slot, State.desk, admission]; rfl
  waitLists n := by rw [← swept.waitLists, State.desk, admission]; rfl
  attempts n := by rw [← swept.attempts, State.desk, admission]; rfl
  gone i named := by rw [← swept.gone i named, State.stage, stages]; rfl
  others i named := by rw [← swept.others i named, State.stage, stages]; rfl
  place := swept.place.trans (.of_eq stages dispatch)
  passes := by rw [stages, swept.passes]
  nodes n := (swept.nodes n).trans (nodes n)
  diskLinks := diskLinks.trans swept.diskLinks
  volumes v := by
    have same : u.volume v = t.volume v := by rw [State.volume, lending]; rfl
    rw [same]
    exact swept.volumes v
  map := by rw [lending, swept.map]

/-- The pieces in flight of a volume fall. -/
theorem Swept.lowerInFlight (swept : Swept G E s t) (v : Volume) (c : Nat) : Swept G E s (Machine.lowerInFlight v c t) where
  slots := swept.slots
  waitLists := swept.waitLists
  attempts := swept.attempts
  gone := swept.gone
  others := swept.others
  place := swept.place.trans (.of_eq rfl rfl)
  passes := swept.passes
  nodes := swept.nodes
  diskLinks := swept.diskLinks
  volumes w := by
    obtain ⟨x, eq⟩ := swept.volumes w
    rw [lowerInFlight_volume, eq]
    exact ⟨_, rfl⟩
  map := swept.map

/-- One more request ends, without a frame. -/
theorem Swept.endRequest_none (swept : Swept G E s t) (n : NodePort) (k : SlotIdx) :
    Swept G (adding E n k) s (endRequest n k none t) where
  slots m l := by
    rw [endRequest_none_slot, swept.slots, swept.slots]
    by_cases here : m = n ∧ l = k
    · obtain ⟨rfl, rfl⟩ := here
      rw [if_pos ⟨rfl, rfl⟩, if_pos (show adding E m l m l = true from adding_eq_true.mpr (.inr ⟨rfl, rfl⟩))]
      split <;> rfl
    · have same : adding E n k m l = E m l := by
        rw [Bool.eq_iff_iff, adding_eq_true]
        tauto
      rw [if_neg here, same]
  waitLists m := by
    rw [endRequest_none_desk, freeSlot_desk]
    split
    · next same =>
      subst same
      rw [swept.waitLists, List.filter_filter]
      refine List.filter_congr fun l _ => ?_
      simp [adding, bne, Bool.and_comm]
    · next other =>
      rw [swept.waitLists]
      refine List.filter_congr fun l _ => ?_
      simp [adding, other]
  attempts m := by
    rw [endRequest_none_desk, freeSlot_desk, ← swept.attempts]
    split
    · next same => subst same; rfl
    · rfl
  gone i named := by
    rw [endRequest_none_stage, swept.serves_of_gone named, if_neg Bool.false_ne_true]
    exact swept.gone i named
  others i named := by
    rw [endRequest_none_stage, swept.others i named]
    exact Stage.withdrawn_adding ..
  place := swept.place.trans (endRequest_none_shrinks n k t)
  passes := (endRequest_none_passes n k t).trans swept.passes
  nodes m := by
    have same : (endRequest n k none t).node m = t.node m := by rw [State.node, endRequest_none_link]; rfl
    rw [same]
    exact swept.nodes m
  diskLinks := by rw [endRequest_none_link, swept.diskLinks]
  volumes v := by
    obtain ⟨x, eq⟩ := swept.volumes v
    rw [endRequest_none_volume, eq]
    exact ⟨_, rfl⟩
  map := (endRequest_none_map n k t).trans swept.map

theorem Swept.produceNode (swept : Swept G E s t) (n : NodePort) (f : NodeFrame) : Swept G E s (produceNode n f t) :=
  swept.then_same (by simp) (by simp) (by simp) (by simp) (produceNode_link_disks n f t)
    fun m => produceNode_moreFrames n f t m

/-- One more request ends. -/
theorem Swept.endRequest (swept : Swept G E s t) (n : NodePort) (k : SlotIdx) (status : Option Status) :
    Swept G (adding E n k) s (endRequest n k status t) := by
  cases status with
  | none => exact swept.endRequest_none n k
  | some status =>
    rw [endRequest_some]
    exact (swept.endRequest_none n k).produceNode ..

/-- One more piece fails. -/
theorem Swept.failPiece (swept : Swept G E s t) (n : NodePort) (k : SlotIdx) (status : Status) :
    Swept G (adding E n k) s (failPiece n k status t) :=
  (swept.lowerInFlight ..).endRequest ..

/-- One more stage goes. -/
theorem Swept.freeStage (swept : Swept G E s t) {i : StageIdx} (used : (t.stage i).state ≠ .free) :
    Swept (fun j => G j || j == i) E s (freeStage i t) where
  slots := swept.slots
  waitLists := swept.waitLists
  attempts := swept.attempts
  gone j named := by
    rw [freeStage_stage]
    split
    · next same =>
      subst same
      rw [Stage.freed_eq_emptied, swept.emptied]
    · next other =>
      have named : G j = true := by simpa [other] using named
      exact swept.gone j named
  others j named := by
    rw [Bool.or_eq_false_iff, beq_eq_false_iff_ne] at named
    rw [freeStage_stage, if_neg named.2, swept.others j named.1]
  place := swept.place.trans (freeStage_shrinks used)
  passes := swept.passes
  nodes := swept.nodes
  diskLinks := swept.diskLinks
  volumes := swept.volumes
  map := swept.map

/-! ## Lists of requests and of pieces -/

/-- The requests that E names and those of the list. -/
def addingAll (E : NodePort → SlotIdx → Bool) (l : List (NodePort × SlotIdx)) (n : NodePort) (k : SlotIdx) : Bool :=
  E n k || l.any fun x => n == x.1 && k == x.2

theorem addingAll_nil (E : NodePort → SlotIdx → Bool) : addingAll E [] = E := by
  funext n k
  simp [addingAll]

theorem addingAll_cons (E : NodePort → SlotIdx → Bool) (x : NodePort × SlotIdx) (l : List (NodePort × SlotIdx)) :
    addingAll E (x :: l) = addingAll (adding E x.1 x.2) l := by
  funext n k
  simp [addingAll, adding, Bool.or_assoc]

theorem addingAll_eq_true {l : List (NodePort × SlotIdx)} {n : NodePort} {k : SlotIdx} :
    addingAll E l n k = true ↔ E n k = true ∨ (n, k) ∈ l := by
  simp only [addingAll, Bool.or_eq_true, List.any_eq_true, Bool.and_eq_true, beq_iff_eq]
  constructor
  · rintro (named | ⟨x, mem, rfl, rfl⟩)
    · exact .inl named
    · exact .inr mem
  · rintro (named | mem)
    · exact .inl named
    · exact .inr ⟨_, mem, rfl, rfl⟩

/-- The requests in a list of slots of node n. -/
def slotsAt (n : NodePort) (l : List SlotIdx) : List (NodePort × SlotIdx) := l.map fun k => (n, k)

/-- The requests of a list of pieces. -/
def requestsOf (l : List Ended) : List (NodePort × SlotIdx) := l.map fun e => (e.node, e.slot)

theorem Swept.endRequests (swept : Swept G E s t) (n : NodePort) (status : Option Status) (l : List SlotIdx) :
    Swept G (addingAll E (slotsAt n l)) s (l.foldl (fun s k => Machine.endRequest n k status s) t) := by
  induction l generalizing E t with
  | nil => rwa [slotsAt, List.map_nil, addingAll_nil]
  | cons k l ih =>
    rw [slotsAt, List.map_cons, addingAll_cons]
    exact ih (swept.endRequest n k status)

theorem Swept.failPieces (swept : Swept G E s t) (status : Status) (l : List Ended) :
    Swept G (addingAll E (requestsOf l)) s (l.foldl (fun s e => Machine.failPiece e.node e.slot status s) t) := by
  induction l generalizing E t with
  | nil => rwa [requestsOf, List.map_nil, addingAll_nil]
  | cons e l ih =>
    rw [requestsOf, List.map_cons, addingAll_cons]
    exact ih (swept.failPiece e.node e.slot status)

theorem Stage.mem_requestsOf_pieces {st : Stage} (used : st.state ≠ .free) {n : NodePort} {k : SlotIdx} :
    (n, k) ∈ requestsOf st.pieces ↔ st.serves n k = true := by
  have used' : (st.state != .free) = true := by simpa using used
  unfold requestsOf Stage.pieces Stage.serves
  rw [used']
  cases st.kind with
  | fetch => simp [Waiter.ofRequest]
  | store =>
    cases st.owner with
    | none => simp
    | some o =>
      obtain ⟨m, l⟩ := o
      simp only [List.map_cons, List.map_nil, List.mem_singleton, Prod.mk.injEq, Bool.true_and, beq_iff_eq,
        Option.some.injEq, Owner.mk.injEq]
      exact ⟨fun ⟨a, b⟩ => ⟨a.symm, b.symm⟩, fun ⟨a, b⟩ => ⟨a.symm, b.symm⟩⟩

/-- One more stage fails, with the requests it serves. -/
theorem Swept.failStage (swept : Swept G E s t) {i : StageIdx} (used : (t.stage i).state ≠ .free) (status : Status) :
    Swept (fun j => G j || j == i) (fun n k => E n k || (t.stage i).serves n k) s (failStage i status t) := by
  have requests : (fun n k => E n k || (t.stage i).serves n k) = addingAll E (requestsOf (t.stage i).pieces) := by
    funext n k
    rw [Bool.eq_iff_iff, addingAll_eq_true, Stage.mem_requestsOf_pieces used, Bool.or_eq_true]
  rw [requests]
  exact (swept.freeStage used).failPieces status (t.stage i).pieces

end

end Sys2Proof.Machine
end

section
/-! PROOFS. What requests that end together take from the pieces in flight (R4) and put on node links (R81, R85). -/

namespace Sys2Proof.Machine

/-! ## Sums and counts over requests -/

theorem sum_flatMap_eq {α : Type} (f : α → List Nat) (l : List α) : (l.flatMap f).sum = (l.map fun a => (f a).sum).sum := by
  induction l with
  | nil => rfl
  | cons a l ih => rw [List.flatMap_cons, List.sum_append, ih, List.map_cons, List.sum_cons]

theorem sum_map_filter {α : Type} (p : α → Bool) (f : α → Nat) (l : List α) :
    ((l.filter p).map f).sum = (l.map fun a => if p a = true then f a else 0).sum := by
  induction l with
  | nil => rfl
  | cons a l ih =>
    rw [List.map_cons, List.sum_cons, ← ih, List.filter_cons]
    split
    · rfl
    · exact (Nat.zero_add _).symm

/-- Predicates that differ at one element alone count one apart. -/
theorem countP_of_one_more {α : Type} {p q : α → Bool} {l : List α} (nodup : l.Nodup) {a : α} (mem : a ∈ l)
    (more : p a = true) (not : q a = false) (same : ∀ b, b ≠ a → p b = q b) : l.countP p = l.countP q + 1 := by
  obtain ⟨x, y, rfl⟩ := List.append_of_mem mem
  have nodup' := nodup
  rw [List.nodup_middle] at nodup'
  have out : ∀ b ∈ x ++ y, b ≠ a := fun b hb eq => (List.nodup_cons.mp nodup').1 (eq ▸ hb)
  have left : x.countP p = x.countP q :=
    List.countP_congr fun b hb => by rw [same b (out b (List.mem_append_left _ hb))]
  have right : y.countP p = y.countP q :=
    List.countP_congr fun b hb => by rw [same b (out b (List.mem_append_right _ hb))]
  rw [List.countP_append, List.countP_append, List.countP_cons_of_pos more, List.countP_cons_of_neg (by simp [not]), left,
    right, Nat.add_assoc]

/-- The pieces of the request in slot k of node n that are attached to a stage. -/
def State.attached (s : State) (n : NodePort) (k : SlotIdx) : Nat :=
  tableCount s.stages.table fun st => st.serves n k

theorem State.attached_eq (s : State) (n : NodePort) (k : SlotIdx) :
    s.attached n k = (List.finRange 256).countP fun i => (s.stage i).serves n k := by
  rw [State.attached, ← State.stagesServing_length, State.stagesServing, tableFilter_eq_filter,
    List.countP_eq_length_filter]
  rfl

/-- The pieces of the requests on volume v that E names. -/
def State.weight (s : State) (E : NodePort → SlotIdx → Bool) (v : Volume) : Nat :=
  (nodePorts.flatMap fun n =>
    (slotIdxs.filter fun k => E n k && (s.slot n k).volume == v).map fun k => s.attached n k).sum

section
variable {s : State} {E : NodePort → SlotIdx → Bool} {n : NodePort} {k : SlotIdx}

theorem State.weight_eq (s : State) (E : NodePort → SlotIdx → Bool) (v : Volume) :
    s.weight E v =
      ∑ n : NodePort, ∑ k : SlotIdx, if (E n k && (s.slot n k).volume == v) = true then s.attached n k else 0 := by
  rw [State.weight, sum_flatMap_eq, Fin.sum_univ_def]
  refine congrArg List.sum (List.map_congr_left fun n _ => ?_)
  rw [sum_map_filter, Fin.sum_univ_def]
  rfl

theorem State.weight_none (s : State) (v : Volume) : s.weight (fun _ _ => false) v = 0 := by
  simp [State.weight_eq]

/-- One more request weighs its pieces. -/
theorem State.weight_adding (new : E n k = false) (v : Volume) :
    s.weight (adding E n k) v = s.weight E v + if v = (s.slot n k).volume then s.attached n k else 0 := by
  have single : (if v = (s.slot n k).volume then s.attached n k else 0) =
      ∑ m : NodePort, ∑ l : SlotIdx,
        if m = n ∧ l = k then (if v = (s.slot n k).volume then s.attached n k else 0) else 0 := by
    rw [Finset.sum_eq_single n (fun m _ other => by simp [other]) (by simp),
      Finset.sum_eq_single k (fun l _ other => by simp [other]) (by simp)]
    simp
  rw [single, State.weight_eq, State.weight_eq, ← Finset.sum_add_distrib]
  refine Finset.sum_congr rfl fun m _ => ?_
  rw [← Finset.sum_add_distrib]
  refine Finset.sum_congr rfl fun l _ => ?_
  by_cases here : m = n ∧ l = k
  · obtain ⟨rfl, rfl⟩ := here
    rw [show adding E m l m l = true from adding_eq_true.mpr (.inr ⟨rfl, rfl⟩), new,
      if_pos (show m = m ∧ l = l from ⟨rfl, rfl⟩), Bool.true_and, Bool.false_and, if_neg Bool.false_ne_true, Nat.zero_add]
    simp only [beq_iff_eq, eq_comm (a := v)]
  · have same : adding E n k m l = E m l := by
      rw [Bool.eq_iff_iff, adding_eq_true]
      tauto
    rw [same, if_neg here, Nat.add_zero]

theorem count_adding (new : E n k = false) (m : NodePort) :
    (slotIdxs.filter (adding E n k m)).length = (slotIdxs.filter (E m)).length + if m = n then 1 else 0 := by
  rw [← List.countP_eq_length_filter, ← List.countP_eq_length_filter]
  split
  · next same =>
    subst same
    refine countP_of_one_more slotIdxs_nodup (mem_slotIdxs k) (adding_eq_true.mpr (.inr ⟨rfl, rfl⟩)) new fun l other => ?_
    rw [Bool.eq_iff_iff, adding_eq_true]
    simp [other]
  · next other =>
    refine List.countP_congr fun l _ => ?_
    rw [adding_eq_true]
    simp [other]

end

/-! ## Pieces in flight (R4) -/

/-- Each volume has lost the pieces of the requests that E names, and stands otherwise. -/
def Lowered (E : NodePort → SlotIdx → Bool) (s t : State) : Prop :=
  ∀ v, t.volume v = { s.volume v with inFlight := (s.volume v).inFlight - s.weight E v }

/-- The stages that G names served only requests that E names. -/
def Clean (G : StageIdx → Bool) (E : NodePort → SlotIdx → Bool) (s : State) : Prop :=
  ∀ i, G i = true → ∀ n k, (s.stage i).serves n k = true → E n k = true

section
variable {G : StageIdx → Bool} {E : NodePort → SlotIdx → Bool} {s t : State} {n : NodePort} {k : SlotIdx}

theorem Lowered.refl (s : State) : Lowered (fun _ _ => false) s s := fun v => by
  rw [State.weight_none]
  rfl

theorem Clean.adding (clean : Clean G E s) (n : NodePort) (k : SlotIdx) : Clean G (adding E n k) s :=
  fun i gone m l serves => adding_eq_true.mpr (.inl (clean i gone m l serves))

theorem Swept.slot_of_new (swept : Swept G E s t) (new : E n k = false) : t.slot n k = s.slot n k := by
  rw [swept.slots, new]
  rfl

/-- Where the stages that are gone served only named requests, a request that is not named keeps its pieces. -/
theorem Swept.attached_of_clean (swept : Swept G E s t) (clean : Clean G E s) (new : E n k = false) :
    t.attached n k = s.attached n k := by
  rw [State.attached_eq, State.attached_eq]
  refine List.countP_congr fun i _ => ?_
  cases gone : G i with
  | true =>
    rw [swept.serves_of_gone gone]
    refine ⟨fun h => absurd h Bool.false_ne_true, fun serves => ?_⟩
    have named := clean i gone n k serves
    rw [new] at named
    exact absurd named Bool.false_ne_true
  | false =>
    rw [swept.serves_of_other gone, new]
    simp

/-- A request that is not named has lost its piece on the stage i that has just gone, and keeps the others. -/
theorem Swept.attached_of_gone (swept : Swept G E s t) {i : StageIdx} (gone : G i = true)
    (clean : Clean (fun j => G j && j != i) E s) (new : E n k = false) (serves : (s.stage i).serves n k = true) :
    s.attached n k = t.attached n k + 1 := by
  rw [State.attached_eq, State.attached_eq]
  refine countP_of_one_more (List.nodup_finRange 256) (List.mem_finRange i) serves (swept.serves_of_gone gone n k)
    fun j other => ?_
  cases named : G j with
  | true =>
    rw [swept.serves_of_gone named, Bool.eq_false_iff]
    intro serves
    have ended := clean j (by simp [named, other]) n k serves
    rw [new] at ended
    cases ended
  | false =>
    rw [swept.serves_of_other named, new]
    simp

/-- One more request ends, of which c pieces were taken away before. -/
theorem Lowered.step (lowered : Lowered E s t) (swept : Swept G E s t) (new : E n k = false) {c : Nat}
    (pieces : s.attached n k = t.attached n k + c) {u : State} (slots : ∀ m l, u.slot m l = t.slot m l)
    (stages : u.stages = t.stages)
    (volumes : ∀ v, u.volume v =
      { t.volume v with inFlight := (t.volume v).inFlight - (if v = (t.slot n k).volume then c else 0) })
    (status : Option Status) : Lowered (Machine.adding E n k) s (endRequest n k status u) := by
  intro v
  have volume : (endRequest n k status u).volume v = (endRequest n k none u).volume v := by
    cases status with
    | none => rfl
    | some status =>
      rw [endRequest_some, State.volume, (produceNode_frame ..).2.1]
      rfl
  have counted : (tableCount u.stages.table fun st => st.serves n k) = t.attached n k := by rw [stages]; rfl
  rw [volume, endRequest_none_volume, counted, slots, volumes, lowered v, swept.slot_of_new new,
    State.weight_adding new]
  by_cases here : v = (s.slot n k).volume
  · simp only [if_pos here]
    congr 1
    omega
  · simp only [if_neg here]
    rfl

/-! ## Frames (R81, R85) -/

/-- Each request that E names, of a node that is UP, got its DONE. -/
def Told (status : Status) (E : NodePort → SlotIdx → Bool) (s t : State) : Prop :=
  ∀ n k, E n k = true → (s.node n).state = .up → ∃ before after, (t.node n).out =
    (s.node n).out ++ before ++ .done (s.slot n k).tag status (s.slot n k).delivered :: after

/-- Each node that is UP got as many DONE frames as E names requests of it. -/
def Answered (E : NodePort → SlotIdx → Bool) (s t : State) : Prop :=
  ∀ n, (s.node n).state = .up → ∃ frames, (t.node n).out = (s.node n).out ++ frames ∧
    (frames.filter fun f => !f.noDone).length = (slotIdxs.filter (E n)).length

theorem Told.refl (status : Status) (s : State) : Told status (fun _ _ => false) s s :=
  fun _ _ named => absurd named Bool.false_ne_true

theorem Answered.refl (s : State) : Answered (fun _ _ => false) s s :=
  fun n _ => ⟨[], (List.append_nil _).symm, by simp⟩

/-- The list of a node link after the end of a request. -/
theorem endRequest_some_out (n : NodePort) (k : SlotIdx) (status : Status) (s : State) (m : NodePort) :
    ((endRequest n k (some status) s).node m).out = (s.node m).out ++
      (if m = n ∧ (s.node n).state = .up then [.done (s.slot n k).tag status (s.slot n k).delivered] else []) := by
  have link : ∀ m, (endRequest n k none s).node m = s.node m := fun m => by
    rw [State.node, endRequest_none_link]
    rfl
  rw [endRequest_some, produceNode_node, link, link]
  by_cases same : m = n
  · subst same
    simp
  · simp [same]

theorem MoreFrames.out {r x : NodeLink} (more : MoreFrames r x) : ∃ frames, x.out = r.out ++ frames := by
  obtain ⟨frames, eq⟩ := more
  exact ⟨frames, by rw [eq]⟩

theorem Told.step {status : Status} (told : Told status E s t) (swept : Swept G E s t) {u : State}
    (slots : ∀ m l, u.slot m l = t.slot m l) (nodes : ∀ m, u.node m = t.node m) (n : NodePort) (k : SlotIdx) :
    Told status (Machine.adding E n k) s (endRequest n k (some status) u) := by
  intro m l named up
  rw [endRequest_some_out, nodes, nodes, slots]
  by_cases old : E m l = true
  · obtain ⟨before, after, eq⟩ := told m l old up
    rw [eq]
    exact ⟨before, after ++ _, by rw [List.append_assoc, List.cons_append]⟩
  · obtain ⟨rfl, rfl⟩ := (adding_eq_true.mp named).resolve_left old
    obtain ⟨frames, eq⟩ := (swept.nodes m).out
    rw [if_pos ⟨rfl, (swept.nodes m).state.trans up⟩, swept.slot_of_new (by simpa using old), eq]
    exact ⟨frames, [], rfl⟩

theorem Answered.step (answered : Answered E s t) (swept : Swept G E s t) {u : State}
    (nodes : ∀ m, u.node m = t.node m) (new : E n k = false) (status : Status) :
    Answered (Machine.adding E n k) s (endRequest n k (some status) u) := by
  intro m up
  obtain ⟨frames, eq, count⟩ := answered m up
  rw [endRequest_some_out, nodes, nodes, eq, count_adding new, ← count]
  refine ⟨frames ++ _, List.append_assoc .., ?_⟩
  rw [List.filter_append, List.length_append]
  by_cases same : m = n
  · subst same
    rw [if_pos ⟨rfl, (swept.nodes m).state.trans up⟩, if_pos rfl]
    rfl
  · rw [if_neg fun h => same h.1, if_neg same]
    rfl

end

end Sys2Proof.Machine
end

section
/-! PROOFS. Stages that fail one after the other, and their requests with them (R81, R122, R123). -/

namespace Sys2Proof.Machine

/-! ## Node links that gain frames, none of them a DONE -/

/-- The node link only gains frames, none of them a DONE. -/
def Undone (r r' : NodeLink) : Prop :=
  ∃ frames, r' = { r with out := r.out ++ frames, produced := r'.produced, silence := r'.silence } ∧
    frames.all NodeFrame.noDone = true

theorem Undone.more {r x : NodeLink} (undone : Undone r x) : MoreFrames r x := by
  obtain ⟨frames, eq, -⟩ := undone
  exact ⟨frames, eq⟩

theorem Undone.refl (r : NodeLink) : Undone r r := ⟨[], by simp, rfl⟩

theorem Undone.of_eq {r x : NodeLink} (eq : x = r) : Undone r x := by
  rw [eq]
  exact .refl r

theorem Undone.trans {r x y : NodeLink} (first : Undone r x) (second : Undone x y) : Undone r y := by
  obtain ⟨a, first, none⟩ := first
  obtain ⟨b, second, none'⟩ := second
  refine ⟨a ++ b, ?_, by rw [List.all_append, none, none']; rfl⟩
  rw [second, first]
  simp

theorem Undone.out {r x : NodeLink} (undone : Undone r x) :
    ∃ frames, x.out = r.out ++ frames ∧ frames.all NodeFrame.noDone = true := by
  obtain ⟨frames, eq, none⟩ := undone
  exact ⟨frames, by rw [eq], none⟩

theorem undone_of_frame (r : NodeLink) {f : NodeFrame} (noDone : f.noDone = true) (p : Bool) :
    Undone r { r with out := r.out ++ [f], produced := p } := ⟨[f], rfl, by simpa using noDone⟩

theorem raiseFlag_undone (f : Flag) (x : Nat) (s : State) (n : NodePort) :
    Undone (s.node n) ((raiseFlag f x s).node n) := by
  rw [raiseFlag_node]
  split
  · unfold State.noticed
    split
    · exact undone_of_frame _ rfl _
    · exact .refl _
  · exact .refl _

theorem loanNotice_undone (i : LoanIdx) (state : NoticeState) (s : State) (n : NodePort) :
    Undone (s.node n) ((loanNotice i state s).node n) := by
  unfold loanNotice
  split
  · next up =>
    rw [produceNode_node, up, if_pos rfl]
    split
    · next same =>
      subst same
      exact undone_of_frame _ rfl _
    · exact .refl _
  · exact .refl _

theorem activateClaim_undone (c : Claim) (s : State) (n : NodePort) :
    Undone (s.node n) ((activateClaim c s).node n) := by
  have undone := raiseFlag_undone .lockout 0
    { s with lock := { s.lock with active := some { claim := c, timer := s.settings.lockoutTime } } } n
  exact undone

theorem handOff_undone (s : State) (n : NodePort) : Undone (s.node n) ((handOff s).node n) := by
  unfold handOff
  split
  · exact .refl _
  · next c rest _ => exact activateClaim_undone c { s with lock := { s.lock with pendingClaims := rest } } n

theorem filter_done_of_all {frames : List NodeFrame} (none : frames.all NodeFrame.noDone = true) :
    frames.filter (fun f => !f.noDone) = [] := by
  rw [List.filter_eq_nil_iff]
  intro f mem
  simp [List.all_eq_true.mp none f mem]

/-! ## Stages that have failed -/

/-- From s to t the stages that G names, none of them FREE, have failed or were freed with the requests of such. -/
structure Failing (status : Status) (G : StageIdx → Bool) (s t : State) : Prop where
  used : ∀ i, G i = true → (s.stage i).state ≠ .free
  swept : Swept G (s.onStages G) s t
  told : Told status (s.onStages G) s t
  exact : (∀ i, G i = true → (requestsOf (s.stage i).pieces).Nodup) →
    Lowered (s.onStages G) s t ∧ Answered (s.onStages G) s t

section
variable {G : StageIdx → Bool} {s t : State} {status : Status}

theorem State.onStages_none (s : State) : s.onStages (fun _ => false) = fun _ _ => false := by
  funext n k
  simp [State.onStages]

theorem State.onStages_clean (s : State) (G : StageIdx → Bool) : Clean G (s.onStages G) s :=
  fun i gone _ _ serves => State.onStages_iff.mpr ⟨i, gone, serves⟩

/-- Nothing has failed where only frames, none of them a DONE, were added. -/
theorem Failing.of_same (admission : t.admission = s.admission) (lending : t.lending = s.lending)
    (stages : t.stages = s.stages) (dispatch : t.dispatch = s.dispatch) (diskLinks : t.link.disks = s.link.disks)
    (nodes : ∀ n, Undone (s.node n) (t.node n)) : Failing status (fun _ => false) s t where
  used _ named := absurd named Bool.false_ne_true
  swept := by
    rw [State.onStages_none]
    exact .of_same admission lending stages dispatch diskLinks fun n => (nodes n).more
  told := by
    rw [State.onStages_none]
    exact fun _ _ named => absurd named Bool.false_ne_true
  exact _ := by
    rw [State.onStages_none]
    constructor
    · intro v
      rw [State.weight_none, State.volume, lending]
      rfl
    · intro n _
      obtain ⟨frames, eq, none⟩ := (nodes n).out
      exact ⟨frames, eq, by simp [filter_done_of_all none]⟩

theorem Failing.refl (status : Status) (s : State) : Failing status (fun _ => false) s s :=
  .of_same rfl rfl rfl rfl rfl fun _ => .refl _

/-- The requests with a piece on one more stage. -/
theorem Swept.onStages_or (swept : Swept G (s.onStages G) s t) {i : StageIdx} (used : (t.stage i).state ≠ .free) :
    s.onStages (fun j => G j || j == i) = fun n k => s.onStages G n k || (t.stage i).serves n k := by
  have other : G i = false := by
    rw [Bool.eq_false_iff]
    intro gone
    rw [swept.gone i gone] at used
    exact used rfl
  funext n k
  rw [swept.serves_of_other other, Bool.eq_iff_iff, State.onStages_iff]
  simp only [Bool.or_eq_true, Bool.and_eq_true, beq_iff_eq, State.onStages_iff, Bool.not_eq_true',
    Bool.eq_false_iff, ne_eq]
  constructor
  · rintro ⟨j, gone | rfl, serves⟩
    · exact .inl ⟨j, gone, serves⟩
    · exact (em _).imp_right fun not => ⟨serves, not⟩
  · rintro (⟨j, gone, serves⟩ | ⟨serves, -⟩)
    · exact ⟨j, .inl gone, serves⟩
    · exact ⟨i, .inr rfl, serves⟩

theorem failPieces_told {E : NodePort → SlotIdx → Bool} (told : Told status E s t) (swept : Swept G E s t)
    (l : List Ended) :
    Told status (addingAll E (requestsOf l)) s (l.foldl (fun s e => failPiece e.node e.slot status s) t) := by
  induction l generalizing E t with
  | nil => rwa [requestsOf, List.map_nil, addingAll_nil]
  | cons e l ih =>
    rw [requestsOf, List.map_cons, addingAll_cons]
    exact ih (told.step (u := lowerInFlight (t.slot e.node e.slot).volume 1 t) swept (fun _ _ => rfl) (fun _ => rfl)
      e.node e.slot) (swept.failPiece e.node e.slot status)

/-- The pieces of the stage i that has just gone fail in turn. -/
theorem failPieces_exact {E : NodePort → SlotIdx → Bool} {i : StageIdx} (gone : G i = true)
    (clean : Clean (fun j => G j && j != i) E s) (swept : Swept G E s t) (lowered : Lowered E s t)
    (answered : Answered E s t) {l : List Ended} (once : (requestsOf l).Nodup)
    (new : ∀ e ∈ l, E e.node e.slot = false ∧ (s.stage i).serves e.node e.slot = true) :
    Lowered (addingAll E (requestsOf l)) s (l.foldl (fun s e => failPiece e.node e.slot status s) t) ∧
      Answered (addingAll E (requestsOf l)) s (l.foldl (fun s e => failPiece e.node e.slot status s) t) := by
  induction l generalizing E t with
  | nil =>
    rw [requestsOf, List.map_nil, addingAll_nil]
    exact ⟨lowered, answered⟩
  | cons e l ih =>
    rw [requestsOf, List.map_cons, addingAll_cons]
    rw [requestsOf, List.map_cons, List.nodup_cons] at once
    obtain ⟨new_e, serves⟩ := new e List.mem_cons_self
    have volumes (v : Volume) := lowerInFlight_volume (t.slot e.node e.slot).volume v 1 t
    refine ih (clean.adding e.node e.slot) (swept.failPiece e.node e.slot status)
      (lowered.step (u := lowerInFlight (t.slot e.node e.slot).volume 1 t) swept new_e
        (swept.attached_of_gone gone clean new_e serves) (fun _ _ => rfl) rfl volumes (some status))
      (answered.step (u := lowerInFlight (t.slot e.node e.slot).volume 1 t) swept (fun _ => rfl) new_e status)
      once.2 fun x mem => ?_
    obtain ⟨new_x, serves_x⟩ := new x (List.mem_cons_of_mem _ mem)
    refine ⟨?_, serves_x⟩
    rw [Bool.eq_false_iff]
    intro named
    obtain old | ⟨node, slot⟩ := adding_eq_true.mp named
    · rw [new_x] at old
      cases old
    · refine once.1 (List.mem_map.mpr ⟨x, mem, ?_⟩)
      rw [node, slot]

theorem Stage.withdrawn_waiters (st : Stage) (E : NodePort → SlotIdx → Bool) :
    (st.withdrawn E).waiters.Sublist st.waiters := by
  rw [Stage.withdrawn_eq]
  split
  · exact List.Sublist.refl _
  · have without : (st.withoutAny E).waiters.Sublist st.waiters := by
      unfold Stage.withoutAny
      split
      · exact List.filter_sublist
      · exact List.Sublist.refl _
    rcases (st.withoutAny E).settled_cases with ⟨-, eq⟩ | ⟨-, ⟨-, eq⟩ | ⟨-, eq⟩⟩ <;> rw [eq]
    · exact without
    · exact List.nil_sublist _
    · exact without

/-- A withdrawal leaves the requests of a stage distinct. -/
theorem Stage.withdrawn_once {st : Stage} (once : (requestsOf st.pieces).Nodup) (E : NodePort → SlotIdx → Bool) :
    (requestsOf (st.withdrawn E).pieces).Nodup := by
  have kind := (st.withdrawn_fields E).2.1
  unfold Stage.pieces at once ⊢
  rw [kind]
  cases kind' : st.kind with
  | fetch =>
    rw [kind'] at once
    exact once.sublist (((st.withdrawn_waiters E).map _).map _)
  | store => cases (st.withdrawn E).owner <;> simp [requestsOf]

theorem Stage.once_of_pairwise {st : Stage}
    (pairwise : st.waiters.Pairwise fun w x => ¬(w.node = x.node ∧ w.slot = x.slot)) :
    (requestsOf st.pieces).Nodup := by
  unfold Stage.pieces
  cases st.kind with
  | fetch =>
    simp only [requestsOf, List.Nodup, List.pairwise_map]
    exact pairwise.imp fun differ same => differ (by simpa using same)
  | store => cases st.owner <;> simp [requestsOf]

/-- One more stage fails. -/
theorem Failing.failStage (failing : Failing status G s t) {i : StageIdx} (used : (t.stage i).state ≠ .free) :
    Failing status (fun j => G j || j == i) s (failStage i status t) := by
  have swept := failing.swept
  have other : G i = false := by
    rw [Bool.eq_false_iff]
    intro gone
    rw [swept.gone i gone] at used
    exact used rfl
  have requests : s.onStages (fun j => G j || j == i) = addingAll (s.onStages G) (requestsOf (t.stage i).pieces) := by
    rw [swept.onStages_or used]
    funext n k
    rw [Bool.eq_iff_iff, addingAll_eq_true, Stage.mem_requestsOf_pieces used, Bool.or_eq_true]
  have freed := swept.freeStage used
  refine ⟨fun j named => ?_, ?_, ?_, fun once => ?_⟩
  · rcases Bool.or_eq_true .. ▸ named with gone | here
    · exact failing.used j gone
    · rw [beq_iff_eq.mp here]
      exact fun free => used (swept.place.free i free)
  · rw [swept.onStages_or used]
    exact swept.failStage used status
  · rw [requests]
    exact failPieces_told (t := Machine.freeStage i t) failing.told freed _
  · obtain ⟨lowered, answered⟩ := failing.exact fun j gone => once j (by rw [gone]; rfl)
    rw [requests]
    refine failPieces_exact (i := i) (by simp) (fun j gone n k serves => ?_) (t := Machine.freeStage i t) freed
      lowered answered ?_ fun e mem => ?_
    · refine s.onStages_clean G j ?_ n k serves
      simp only [Bool.and_eq_true, Bool.or_eq_true, beq_iff_eq, bne_iff_ne] at gone
      exact gone.1.resolve_right gone.2
    · rw [swept.others i other]
      exact Stage.withdrawn_once (once i (by simp)) _
    · have serves : (t.stage i).serves e.node e.slot = true :=
        (Stage.mem_requestsOf_pieces used).mp (List.mem_map.mpr ⟨e, mem, rfl⟩)
      rw [swept.serves_of_other other, Bool.and_eq_true, Bool.not_eq_true'] at serves
      exact ⟨serves.2, serves.1⟩

/-- A stage that a withdrawal freed before its turn has failed with its requests. -/
theorem Failing.skip (failing : Failing status G s t) {i : StageIdx} (used : (s.stage i).state ≠ .free)
    (free : (t.stage i).state = .free) : Failing status (fun j => G j || j == i) s t := by
  have swept := failing.swept
  by_cases gone : G i = true
  · have same : (fun j => G j || j == i) = G := by
      funext j
      by_cases here : j = i
      · subst here; simp [gone]
      · simp [here]
    rwa [same]
  have left := swept.others i (by simpa using gone)
  have eq : t.stage i = (s.stage i).emptied ∧
      ∀ n k, (s.stage i).serves n k = true → s.onStages G n k = true := by
    obtain ⟨-, -, -, ⟨state, -⟩ | ⟨-, eq, served⟩⟩ := (s.stage i).withdrawn_fields (s.onStages G)
    · rw [left, state] at free
      exact absurd free used
    · exact ⟨left.trans eq, served⟩
  have requests : s.onStages (fun j => G j || j == i) = s.onStages G := by
    funext n k
    rw [Bool.eq_iff_iff, State.onStages_iff]
    simp only [Bool.or_eq_true, beq_iff_eq]
    constructor
    · rintro ⟨j, gone | rfl, serves⟩
      · exact State.onStages_iff.mpr ⟨j, gone, serves⟩
      · exact eq.2 n k serves
    · intro named
      obtain ⟨j, gone, serves⟩ := State.onStages_iff.mp named
      exact ⟨j, .inl gone, serves⟩
  refine ⟨fun j named => ?_, ?_, by rw [requests]; exact failing.told, fun once => ?_⟩
  · rcases Bool.or_eq_true .. ▸ named with gone | here
    · exact failing.used j gone
    · rwa [beq_iff_eq.mp here]
  · rw [requests]
    refine ⟨swept.slots, swept.waitLists, swept.attempts, fun j named => ?_, fun j named => ?_, swept.place,
      swept.passes, swept.nodes, swept.diskLinks, swept.volumes, swept.map⟩
    · by_cases here : j = i
      · rw [here]
        exact eq.1
      · exact swept.gone j (by simpa [here] using named)
    · exact swept.others j (Bool.or_eq_false_iff.mp named).1
  · rw [requests]
    exact failing.exact fun j gone => once j (by rw [gone]; rfl)

/-! ## What the statements say of failed stages -/

/-- What adds only frames that are no DONE, and touches no record that a failure touches. -/
structure Afterwards (t u : State) : Prop where
  admission : u.admission = t.admission
  lending : u.lending = t.lending
  table : u.stages.table = t.stages.table
  order : u.stages.order = t.stages.order
  nodes : ∀ n, Undone (t.node n) (u.node n)

theorem Afterwards.trans {t u x : State} (first : Afterwards t u) (second : Afterwards u x) : Afterwards t x :=
  ⟨second.admission.trans first.admission, second.lending.trans first.lending, second.table.trans first.table,
    second.order.trans first.order, fun n => (first.nodes n).trans (second.nodes n)⟩

theorem raiseFlag_afterwards (f : Flag) (x : Nat) (s : State) : Afterwards s (raiseFlag f x s) :=
  ⟨by simp, by simp, by simp, by simp, raiseFlag_undone f x s⟩

theorem owePass_afterwards (before s : State) : Afterwards s (owePass before s) := by
  unfold owePass
  split <;> exact ⟨rfl, rfl, rfl, rfl, fun _ => .refl _⟩

theorem Afterwards.slot {t u : State} (after : Afterwards t u) (n : NodePort) (k : SlotIdx) : u.slot n k = t.slot n k := by
  rw [State.slot, State.desk, after.admission]
  rfl

theorem Afterwards.desk {t u : State} (after : Afterwards t u) (n : NodePort) : u.desk n = t.desk n := by
  rw [State.desk, after.admission]
  rfl

theorem Afterwards.stage {t u : State} (after : Afterwards t u) (i : StageIdx) : u.stage i = t.stage i := by
  rw [State.stage, after.table]
  rfl

theorem Afterwards.volume {t u : State} (after : Afterwards t u) (v : Volume) : u.volume v = t.volume v := by
  rw [State.volume, after.lending]
  rfl

theorem Failing.stagesFailed (failing : Failing status G s t) {u : State} (after : Afterwards t u) :
    StagesFailed G s u where
  slots n k := by rw [after.slot, failing.swept.slots]
  waitLists n := by rw [after.desk, failing.swept.waitLists]
  attempts n := by rw [after.desk, failing.swept.attempts]
  failed i gone := by rw [after.stage, failing.swept.gone i gone]
  others i other := by rw [after.stage, failing.swept.others i other]
  order := by
    rw [after.order, failing.swept.place.order]
    simp only [after.stage]
  inFlight pairwise v := by
    rw [after.volume, (failing.exact fun i gone => Stage.once_of_pairwise (pairwise i gone)).1 v]
    rfl
  dones pairwise n up := by
    obtain ⟨frames, eq, count⟩ := (failing.exact fun i gone => Stage.once_of_pairwise (pairwise i gone)).2 n up
    obtain ⟨notices, more, none⟩ := (after.nodes n).out
    refine ⟨frames ++ notices, by rw [more, eq, List.append_assoc], ?_⟩
    rw [List.filter_append, filter_done_of_all none, List.append_nil, count]

theorem Failing.requestFailed (failing : Failing status G s t) {u : State} (after : Afterwards t u) {n : NodePort}
    {k : SlotIdx} (named : s.onStages G n k = true) : RequestFailed n k status s u := by
  refine ⟨by rw [after.slot, failing.swept.slots, named]; rfl, fun up => ?_⟩
  obtain ⟨before, behind, eq⟩ := failing.told n k named up
  obtain ⟨notices, more, -⟩ := (after.nodes n).out
  exact ⟨before, behind ++ notices, by rw [more, eq, List.append_assoc, List.cons_append]⟩

/-- Where a stage has failed alone and serves one request alone. -/
theorem Failing.soleRequestFailed (failing : Failing status G s t) {u : State} (after : Afterwards t u) {i : StageIdx}
    (gone : G i = true) (alone : ∀ j, j ≠ i → G j = true → ∀ n k, (s.stage j).serves n k = false) {n : NodePort}
    {k : SlotIdx} (serves : (s.stage i).serves n k = true) : SoleRequestFailed i n k status s u := by
  intro single elsewhere
  have used : (s.stage i).state ≠ .free := fun free => by
    rw [Stage.serves_of_free free] at serves
    cases serves
  have pieces : requestsOf (s.stage i).pieces = [(n, k)] := by
    have mem := (Stage.mem_requestsOf_pieces used).mpr serves
    have length : (requestsOf (s.stage i).pieces).length ≤ 1 := by
      unfold Stage.pieces requestsOf
      rw [List.length_map]
      cases kind : (s.stage i).kind with
      | fetch => rw [List.length_map, single kind]
      | store => cases (s.stage i).owner <;> simp
    obtain ⟨x, eq⟩ := List.length_eq_one_iff.mp (le_antisymm length (List.length_pos_of_mem mem))
    rw [eq] at mem ⊢
    rw [List.mem_singleton.mp mem]
  have only (m : NodePort) (l : SlotIdx) : s.onStages G m l = true ↔ m = n ∧ l = k := by
    rw [State.onStages_iff]
    constructor
    · rintro ⟨j, named, serves'⟩
      by_cases here : j = i
      · rw [here] at serves'
        have served := (Stage.mem_requestsOf_pieces used).mpr serves'
        rw [pieces, List.mem_singleton, Prod.mk.injEq] at served
        exact served
      · rw [alone j here named] at serves'
        cases serves'
    · rintro ⟨rfl, rfl⟩
      exact ⟨i, gone, serves⟩
  have once (j : StageIdx) (named : G j = true) : (requestsOf (s.stage j).pieces).Nodup := by
    by_cases here : j = i
    · rw [here, pieces]
      exact List.nodup_singleton _
    · have empty : requestsOf (s.stage j).pieces = [] := by
        rw [List.eq_nil_iff_forall_not_mem]
        rintro ⟨m, l⟩ mem
        rw [Stage.mem_requestsOf_pieces (failing.used j named), alone j here named] at mem
        cases mem
      rw [empty]
      exact List.nodup_nil
  obtain ⟨lowered, answered⟩ := failing.exact once
  have one : s.onStages G = adding (fun _ _ => false) n k := by
    funext m l
    rw [Bool.eq_iff_iff, only, adding_eq_true]
    simp
  have attached : s.attached n k = 1 := by
    rw [State.attached_eq, countP_of_one_more (q := fun _ => false) (List.nodup_finRange 256) (List.mem_finRange i) serves
      rfl elsewhere]
    simp
  refine ⟨?_, fun up => ?_⟩
  · rw [after.volume, lowered, one, State.weight_adding rfl, State.weight_none, if_pos rfl, attached]
  · obtain ⟨frames, eq, count⟩ := answered n up
    obtain ⟨before, behind, told⟩ := failing.told n k ((only n k).mpr ⟨rfl, rfl⟩) up
    obtain ⟨notices, more, none⟩ := (after.nodes n).out
    rw [one, count_adding rfl, if_pos rfl] at count
    have split : frames = before ++ .done (s.slot n k).tag status (s.slot n k).delivered :: behind := by
      rw [eq, List.append_assoc] at told
      exact List.append_cancel_left told
    refine ⟨before, behind ++ notices, by rw [more, told, List.append_assoc, List.cons_append], ?_⟩
    rw [split, List.filter_append, List.filter_cons_of_pos rfl, List.length_append, List.length_cons] at count
    have noDone {l : List NodeFrame} (empty : (l.filter fun f => !f.noDone).length = 0) : l.all NodeFrame.noDone = true := by
      simpa [List.filter_eq_nil_iff] using empty
    have zero : (slotIdxs.filter fun _ => false).length = 0 := by simp
    rw [zero] at count
    rw [List.all_append, List.all_append, noDone (by omega), noDone (by omega), none]
    rfl

end

end Sys2Proof.Machine
end

section
/-! PROOFS. One stage that fails: protocol errors of its disk and timeouts (R119, R122, R147). -/

namespace Sys2Proof.Machine

/-- Stage i has failed with a status, flag f raised before: what the statements say of it. -/
structure StageLost (i : StageIdx) (status : Status) (f : Flag) (s t : State) : Prop where
  free : (t.stage i).state = .free
  generation : (t.stage i).generation = (s.stage i).generation
  flag : t.flagSet f = true
  order : i ∉ t.stages.order
  disks : ∀ e, ∃ lanes, t.disk e = { s.disk e with lanes := lanes }
  map : t.lending.map = s.lending.map
  nodes : ∀ n, MoreFrames (s.node n) (t.node n)
  diskLinks : t.link.disks = s.link.disks
  work : StagesFailed (· == i) s t
  lanes : ∀ e, LanesLeft e s t
  passes : t.stages.passesDue = s.stages.passesDue + 1
  requests : ∀ n k, (s.stage i).serves n k = true → RequestFailed n k status s t ∧ SoleRequestFailed i n k status s t

section
variable {s : State} {i : StageIdx}

theorem owePass_disk (before s : State) (d : DiskPort) : (owePass before s).disk d = s.disk d := by
  unfold owePass
  split <;> rfl

theorem owePass_link (before s : State) : (owePass before s).link = s.link := by
  unfold owePass
  split <;> rfl

theorem raised_failing (status : Status) (f : Flag) (x : Nat) (s : State) :
    Failing status (fun _ => false) s (raiseFlag f x s) :=
  .of_same (by simp) (by simp) (by simp) (by simp) (by rw [raiseFlag_link]) (raiseFlag_undone f x s)

theorem raised_failStage (used : (s.stage i).state ≠ .free) (status : Status) (f : Flag) (x : Nat) :
    Failing status (· == i) s (failStage i status (raiseFlag f x s)) := by
  have stage : (raiseFlag f x s).stage i = s.stage i := by
    rw [State.stage, show (raiseFlag f x s).stages = s.stages by simp]
    rfl
  have failing := (raised_failing status f x s).failStage (i := i) (by rwa [stage])
  simpa using failing

/-- What a stage that fails leaves, with a flag raised before and the pass owed after. -/
theorem failStage_lost (used : (s.stage i).state ≠ .free) (status : Status) (f : Flag) (x : Nat) :
    StageLost i status f s (owePass s (failStage i status (raiseFlag f x s))) := by
  have failing := raised_failStage used status f x
  obtain ⟨u, eq⟩ : ∃ u, u = failStage i status (raiseFlag f x s) := ⟨_, rfl⟩
  have management : u.management = (raiseFlag f x s).management := by rw [eq]; simp
  rw [← eq] at failing ⊢
  have after := owePass_afterwards s u
  have swept := failing.swept
  have gone : u.stage i = (s.stage i).emptied := swept.gone i (beq_self_eq_true i)
  have more : s.freeStages < u.freeStages := freeStages_lt swept.place.free used (by rw [gone]; rfl)
  refine
    { free := by rw [after.stage, gone]; rfl
      generation := by rw [after.stage, gone]; rfl
      flag := ?_
      order := ?_
      disks := fun e => ?_
      map := by rw [after.lending, swept.map]
      nodes := fun n => (swept.nodes n).trans (after.nodes n).more
      diskLinks := by rw [owePass_link, swept.diskLinks]
      work := failing.stagesFailed after
      lanes := fun e c => ?_
      passes := by rw [owePass_of_lt more, ← swept.passes]
      requests := fun n k serves => ⟨failing.requestFailed after ?_, failing.soleRequestFailed after
        (beq_self_eq_true i) (fun j other named => absurd (beq_iff_eq.mp named) other) serves⟩ }
  · have same : (owePass s u).management = u.management := by simp
    rw [State.flagSet, same, management, ← State.flagSet, raiseFlag_flagSet]
    simp
  · rw [after.order, swept.place.order, List.mem_filter, gone]
    intro mem
    have kept := mem.2
    simp [Stage.emptied, used] at kept
  · rw [owePass_disk]
    exact swept.place.disks.disks e
  · rw [owePass_disk, swept.place.lanes e c]
    simp only [after.stage]
  · rw [State.onStages_beq]
    exact serves

/-! ## Timeouts (R147) -/

theorem Stage.timesOut_iff {st : Stage} {x : Timeouts} (enabled : x.disabled = false) :
    st.timesOut x = true ↔
      (st.state = .sent ∨ st.state = .retrying) ∧ max 1 x.retry ≤ min 255 (st.sendAge + 1) ∨
        (st.state = .accepted ∨ st.state = .streaming) ∧ max 1 x.response ≤ min 255 (st.acceptAge + 1) := by
  unfold Stage.timesOut readTimeout
  rw [enabled]
  cases st.state <;> simp

theorem takeStageStep_timesOut (owed : (s.stage i).owed = true)
    (timesOut : (s.stage i).timesOut s.dispatch.timeoutsRead = true) : takeStageStep i s = timeOutStage i s := by
  rw [takeStageStep, if_pos owed, stageStep, if_pos timesOut]

/-- Settles O47: the owed step fails the stage. -/
theorem timeoutsFailTheStage : Obligations.TimeoutsFailTheStage := by
  intro i s owed enabled
  have lost (used : (s.stage i).state ≠ .free) :=
    failStage_lost used .timeout (.diskTimeout (s.stage i).disk) 0
  refine ⟨fun state old => ⟨timeOutStage i s, ?_, ?_⟩, fun state old => ⟨timeOutStage i s, ?_, ?_⟩⟩
  · refine congrArg Host.Outcome.next ?_
    rw [takeRetryTimeout, if_pos state]
    exact takeStageStep_timesOut owed ((Stage.timesOut_iff enabled).mpr (.inl ⟨state, old⟩))
  · obtain ⟨free, generation, flag, -, disks, map, nodes, links, work, lanes, passes, requests⟩ :=
      lost (by rcases state with h | h <;> simp [h])
    exact ⟨free, generation, flag, disks, by simp [timeOutStage], by simp [timeOutStage], by simp [timeOutStage], map,
      links, nodes, work, lanes, passes, requests⟩
  · refine congrArg Host.Outcome.next ?_
    rw [takeResponseTimeout, if_pos state]
    exact takeStageStep_timesOut owed ((Stage.timesOut_iff enabled).mpr (.inr ⟨state, old⟩))
  · obtain ⟨free, generation, flag, -, disks, map, nodes, links, work, lanes, passes, requests⟩ :=
      lost (by rcases state with h | h <;> simp [h])
    exact ⟨free, generation, flag, disks, by simp [timeOutStage], by simp [timeOutStage], by simp [timeOutStage], map,
      links, nodes, work, lanes, passes, requests⟩

/-! ## Protocol errors (R119) -/

/-- A reply that is a protocol error fails its stage. -/
theorem exec_protocolError {d : DiskPort} {tag : Tag} {c : Instr} (present : (s.disk d).state = .present)
    (matched : matchReply d tag s = some i)
    (error : (∃ result, c = .diskDoneError d result tag) ∨
      c = .diskDoneOk d tag ∧ (s.stage i).completable = false ∨
      ∃ index block, c = .diskData d index tag block ∧
        ¬((s.stage i).kind = .fetch ∧ index.toNat = (s.stage i).expected ∧
          ((s.stage i).state = .accepted ∨ (s.stage i).state = .streaming ∧ (s.stage i).arrived < 8))) :
    exec c s = .next (owePass (heardFrom d s) (protocolError i (heardFrom d s))) := by
  rcases error with ⟨result, rfl⟩ | ⟨rfl, early⟩ | ⟨index, block, rfl, out⟩
  · exact congrArg Host.Outcome.next (onReply_matched present matched)
  · refine congrArg Host.Outcome.next ((onReply_matched (act := doneOkFor) present matched).trans ?_)
    have early' : ((heardFrom d s).stage i).completable = false := early
    rw [doneOkFor, early']
    exact if_neg Bool.false_ne_true
  · refine congrArg Host.Outcome.next ((onReply_matched (act := dataFor index block) present matched).trans ?_)
    have out' : ¬(((heardFrom d s).stage i).kind = .fetch ∧
        (((heardFrom d s).stage i).state = .accepted ∨
          ((heardFrom d s).stage i).state = .streaming ∧ ((heardFrom d s).stage i).arrived < 8) ∧
        index.toNat = ((heardFrom d s).stage i).expected) := fun ⟨kind, state, here⟩ => out ⟨kind, here, state⟩
    unfold dataFor
    dsimp only
    rw [if_neg out']

/-- The DONE of the only request of a stage that fails is the last frame of its node. -/
theorem failStage_sole {e : Ended} (pieces : (s.stage i).pieces = [e]) (status : Status)
    (up : (s.node e.node).state = .up) :
    ((failStage i status s).node e.node).out = (s.node e.node).out ++
      [.done (s.slot e.node e.slot).tag status (s.slot e.node e.slot).delivered] := by
  rw [failStage, pieces]
  refine (endRequest_some_out e.node e.slot status (lowerInFlight _ 1 (freeStage i s)) e.node).trans ?_
  refine congrArg ((s.node e.node).out ++ ·) ?_
  exact if_pos ⟨rfl, up⟩

theorem protocolError_sole {e : Ended} (pieces : (s.stage i).pieces = [e]) (up : (s.node e.node).state = .up)
    (before : State) :
    ∃ frames, ((owePass before (protocolError i s)).node e.node).out = (s.node e.node).out ++ frames ++
      [.done (s.slot e.node e.slot).tag .diskError (s.slot e.node e.slot).delivered] := by
  obtain ⟨r, eq⟩ : ∃ r, r = raiseFlag (.diskError (s.stage i).disk) 0 s := ⟨_, rfl⟩
  have undone : Undone (s.node e.node) (r.node e.node) := by rw [eq]; exact raiseFlag_undone ..
  have after : Afterwards s r := by rw [eq]; exact raiseFlag_afterwards ..
  obtain ⟨frames, out, -⟩ := undone.out
  refine ⟨frames, ?_⟩
  rw [State.node, owePass_link, ← State.node, protocolError, ← eq,
    failStage_sole (e := e) (by rw [after.stage]; exact pieces) .diskError (undone.more.state.trans up), out, after.slot]

/-- Settles O43: each of the three errors fails the stage. -/
theorem protocolErrorsFailTheStage : Obligations.ProtocolErrorsFailTheStage := by
  intro d tag i s c present matched error
  obtain ⟨-, -, -, atDisk, disk⟩ := matchReply_eq_some.mp matched
  have used : ((heardFrom d s).stage i).state ≠ .free := (Stage.atDisk_iff.mp atDisk).1
  have lost : StageLost i .diskError (.diskError d) (heardFrom d s)
      (owePass (heardFrom d s) (protocolError i (heardFrom d s))) := by
    have here : ((heardFrom d s).stage i).disk = d := disk
    rw [protocolError, here]
    exact failStage_lost used .diskError (.diskError d) 0
  have sole {e : Ended} (pieces : (s.stage i).pieces = [e]) (up : (s.node e.node).state = .up) :=
    protocolError_sole (s := heardFrom d s) pieces up (heardFrom d s)
  have taken := exec_protocolError present matched error
  have frame : (owePass (heardFrom d s) (protocolError i (heardFrom d s))).meter = s.meter ∧
      (owePass (heardFrom d s) (protocolError i (heardFrom d s))).loan = s.loan ∧
      (owePass (heardFrom d s) (protocolError i (heardFrom d s))).lock = s.lock := by simp [heardFrom]
  generalize owePass (heardFrom d s) (protocolError i (heardFrom d s)) = t at lost sole taken frame
  obtain ⟨free, generation, flag, order, disks, map, nodes, links, work, lanes, passes, requests⟩ := lost
  have requests (n : NodePort) (k : SlotIdx) (serves : (s.stage i).serves n k = true) :
      RequestFailed n k .diskError s t ∧ SoleRequestFailed i n k .diskError s t := requests n k serves
  obtain ⟨meter, loan, lock⟩ := frame
  refine ⟨t, taken, free, generation, flag, order, meter, loan, lock, disks, map, nodes,
    fun e => ?_, ⟨work.slots, work.waitLists, work.attempts, work.failed, work.others, work.order, work.inFlight,
      work.dones⟩, lanes, passes, requests, fun o kind owner elsewhere => ?_,
    fun w kind waiters elsewhere up => ?_⟩
  · rw [State.diskLink, links]
    rfl
  · have pieces : (s.stage i).pieces = [{ node := o.node, slot := o.slot, count := (s.stage i).count }] := by
      rw [Stage.pieces, kind, owner]
    have serves : (s.stage i).serves o.node o.slot = true := by
      have used' : ((s.stage i).state != .free) = true := bne_iff_ne.mpr used
      simp only [Stage.serves, used', kind, owner, Bool.true_and, beq_self_eq_true]
    exact ⟨((requests _ _ serves).2 (fun fetch => by rw [kind] at fetch; cases fetch) elsewhere).1, sole pieces⟩
  · have pieces : (s.stage i).pieces = [{ node := w.node, slot := w.slot, count := w.count }] := by
      rw [Stage.pieces, kind, waiters]
      rfl
    have serves : (s.stage i).serves w.node w.slot = true := by
      have used' : ((s.stage i).state != .free) = true := bne_iff_ne.mpr used
      simp [Stage.serves, used', kind, waiters, Waiter.ofRequest]
    refine ⟨?_, sole pieces up, ((requests _ _ serves).2 (fun _ => by rw [waiters]; rfl) elsewhere).1⟩
    rw [(requests _ _ serves).1.1]
    rfl

end

end Sys2Proof.Machine
end

section
/-! PROOFS. The loss of a disk (R149, R123). -/

namespace Sys2Proof.Machine

/-! ## What happens on links alone -/

/-- From s to t nothing changed but links, and node links only gained frames, none of them a DONE. -/
structure OnLinks (s t : State) : Prop where
  admission : t.admission = s.admission
  lending : t.lending = s.lending
  loan : t.loan = s.loan
  meter : t.meter = s.meter
  stages : t.stages = s.stages
  dispatch : t.dispatch = s.dispatch
  lock : t.lock = s.lock
  management : t.management = s.management
  nodes : ∀ n, Undone (s.node n) (t.node n)

section
variable {s t u : State}

theorem OnLinks.refl (s : State) : OnLinks s s := ⟨rfl, rfl, rfl, rfl, rfl, rfl, rfl, rfl, fun _ => .refl _⟩

theorem OnLinks.trans (first : OnLinks s t) (second : OnLinks t u) : OnLinks s u where
  admission := second.admission.trans first.admission
  lending := second.lending.trans first.lending
  loan := second.loan.trans first.loan
  meter := second.meter.trans first.meter
  stages := second.stages.trans first.stages
  dispatch := second.dispatch.trans first.dispatch
  lock := second.lock.trans first.lock
  management := second.management.trans first.management
  nodes n := (first.nodes n).trans (second.nodes n)

theorem heard_onLinks (h : ManageHeader) (s : State) : OnLinks s (heard h s) where
  admission := by rw [heard_eq]
  lending := by rw [heard_eq]
  loan := by rw [heard_eq]
  meter := by rw [heard_eq]
  stages := by rw [heard_eq]
  dispatch := by rw [heard_eq]
  lock := by rw [heard_eq]
  management := by rw [heard_eq]
  nodes n := ⟨[], by rw [heard_node, List.append_nil], rfl⟩

theorem diskLinkDown_onLinks (d : DiskPort) (rest : List DiskFrame) (s : State) : OnLinks s (diskLinkDown d rest s) :=
  ⟨rfl, rfl, rfl, rfl, rfl, rfl, rfl, rfl, fun _ => .refl _⟩

/-- A MANAGE REPLY is no DONE. -/
theorem reply_onLinks (n : NodePort) {f : NodeFrame} (noDone : f.noDone = true) (s : State) :
    OnLinks s (produceNode n f s) := by
  obtain ⟨admission, lending, loan, meter, stages, dispatch, lock, management, -, -⟩ := produceNode_frame n f s
  refine ⟨admission, lending, loan, meter, stages, dispatch, lock, management, fun m => ?_⟩
  rw [produceNode_node]
  split
  · next same =>
    subst same
    refine ⟨_, rfl, ?_⟩
    split
    · simpa using noDone
    · rfl
  · exact .refl _

theorem OnLinks.afterwards (links : OnLinks s t) : Afterwards s t :=
  ⟨links.admission, links.lending, by rw [links.stages], by rw [links.stages], links.nodes⟩

/-- A served operation without a table: the frame is taken, the operation runs, the reply goes out. -/
theorem manageOp_eq_produced {h : ManageHeader} (managed : s.managedBy h) (operation : Byte)
    (serve : State → State × ReplyStatus) :
    manageOp h operation serve s =
      produceNode h.port (.manageReply h.tag operation (serve (heard h s)).2 0 0 []) (serve (heard h s)).1 := by
  have manager : ((takeManage h s).node h.port).manager = true := by
    rw [heard_of_up managed.1]
    exact (heard_manager ..).trans managed.2
  unfold manageOp manage
  dsimp only
  rw [if_pos manager, heard_of_up managed.1]
  rfl

/-! ## The passes owed (R111) -/

theorem freeStages_of_table (same : t.stages.table = s.stages.table) : t.freeStages = s.freeStages := by
  rw [State.freeStages, State.freeStages, same]

/-- After the pass for freed stages is noted. -/
theorem owePass_passOwed {before : State} (passes : s.stages.passesDue = before.stages.passesDue) :
    PassOwed before (owePass before s) := by
  rcases owePass_cases before s with ⟨more, eq⟩ | ⟨not, eq⟩
  · have counted : (owePass before s).freeStages = s.freeStages := freeStages_of_table (by rw [eq])
    rw [PassOwed, counted, if_pos more, eq, ← passes]
  · rw [eq, PassOwed, if_neg (Nat.not_lt.mpr not), passes, Nat.add_zero]

theorem PassOwed.transport {a b : State} (owed : PassOwed a b) (table : s.stages.table = a.stages.table)
    (passes : s.stages.passesDue = a.stages.passesDue) (stages : t.stages = b.stages) : PassOwed s t := by
  rw [PassOwed, freeStages_of_table (t := s) table, freeStages_of_table (t := t) (s := b) (by rw [stages]), passes,
    stages]
  exact owed

end

/-! ## The stages of a lost disk (R123) -/

section
variable {s t : State} {d : DiskPort}

/-- The stages of the list fail in turn, those freed before their turn with the requests that freed them. -/
theorem loseStages_failing {G : StageIdx → Bool} (failing : Failing .diskLost G s t) (l : List StageIdx)
    (ofDisk : ∀ i ∈ l, (s.stage i).state ≠ .free ∧ (s.stage i).disk = d) :
    Failing .diskLost (fun j => G j || decide (j ∈ l)) s (l.foldl (fun s i => loseStage d i s) t) := by
  induction l generalizing G t with
  | nil =>
    have same : (fun j => G j || decide (j ∈ ([] : List StageIdx))) = G := by
      funext j
      simp
    rw [same]
    exact failing
  | cons i l ih =>
    obtain ⟨used, disk⟩ := ofDisk i List.mem_cons_self
    have here : Failing .diskLost (fun j => G j || j == i) s (loseStage d i t) := by
      unfold loseStage
      by_cases free : (t.stage i).state = .free
      · rw [if_neg fun h => h.1 free]
        exact failing.skip used free
      · rw [if_pos ⟨free, (failing.swept.place.disk i).trans disk⟩]
        exact failing.failStage free
    have rest := ih here fun j mem => ofDisk j (List.mem_cons_of_mem i mem)
    have same : (fun j => G j || decide (j ∈ i :: l)) = fun j => (G j || j == i) || decide (j ∈ l) := by
      funext j
      rw [Bool.eq_iff_iff]
      simp [or_assoc]
    rw [same]
    exact rest

/-- The stages of disk d that are not FREE. -/
def State.ofDisk (s : State) (d : DiskPort) (i : StageIdx) : Bool :=
  (s.stage i).disk == d && (s.stage i).state != .free

theorem State.mem_stagesOf {i : StageIdx} :
    i ∈ s.stagesOf d ↔ (s.stage i).state ≠ .free ∧ (s.stage i).disk = d := by
  rw [State.stagesOf, mem_tableFilter]
  simp [State.stage]

theorem loseAll_failing (failing : Failing .diskLost (fun _ => false) s t) :
    Failing .diskLost (s.ofDisk d) s ((s.stagesOf d).foldl (fun s i => loseStage d i s) t) := by
  have all := loseStages_failing failing (s.stagesOf d) (d := d) fun i mem => State.mem_stagesOf.mp mem
  have same : (fun j => false || decide (j ∈ s.stagesOf d)) = s.ofDisk d := by
    funext i
    rw [Bool.eq_iff_iff]
    simp [State.mem_stagesOf, State.ofDisk, and_comm]
  rwa [same] at all

/-! ## The loss -/

/-- The state s with the lanes of disk d empty, and the disk links as in r. -/
def emptiedLanes (d : DiskPort) (r s : State) : State :=
  let b := s.setDisk d { s.disk d with lanes := Vector.replicate 4 [] }
  { b with link := { s.link with disks := r.link.disks } }

theorem lostStages_failing {r : State} (links : OnLinks s r) :
    Failing .diskLost (s.ofDisk d) (emptiedLanes d r s)
      ((r.stagesOf d).foldl (fun s i => loseStage d i s)
        (r.setDisk d { r.disk d with lanes := Vector.replicate 4 [] })) := by
  have disks : r.dispatch = s.dispatch := links.dispatch
  have same : r.stagesOf d = (emptiedLanes d r s).stagesOf d := by
    rw [State.stagesOf, links.stages]
    rfl
  rw [same]
  refine loseAll_failing (s := emptiedLanes d r s) (.of_same links.admission links.lending links.stages ?_ rfl links.nodes)
  rw [State.setDisk, State.disk, links.dispatch]
  rfl

/-- The records after the stages of the disk have failed, before the disk's flag. -/
def lostRecords (d : DiskPort) (r : State) : State :=
  let u := (r.stagesOf d).foldl (fun s i => loseStage d i s)
    (r.setDisk d { r.disk d with lanes := Vector.replicate 4 [] })
  owePass r (u.setDisk d (u.disk d).lost)

theorem diskLoss_absent {r : State} (absent : (r.disk d).state = .absent) : diskLoss d r = lostRecords d r := by
  unfold diskLoss
  dsimp only
  split
  · rfl
  · next present =>
    rw [absent] at present
    cases present

theorem diskLoss_present {r : State} (present : (r.disk d).state = .present) :
    diskLoss d r = raiseFlag (.diskDown d) 0 (lostRecords d r) := by
  unfold diskLoss
  dsimp only
  split
  · next absent =>
    rw [present] at absent
    cases absent
  · rfl

theorem setDisk_afterwards (d : DiskPort) (x : DiskRecord) (s : State) : Afterwards s (s.setDisk d x) :=
  ⟨rfl, rfl, rfl, rfl, fun _ => .refl _⟩

/-- Beside its flag, a disk loss leaves the records as they were before the flag. -/
theorem diskLoss_records (d : DiskPort) (r : State) :
    Afterwards (lostRecords d r) (diskLoss d r) ∧ (diskLoss d r).stages = (lostRecords d r).stages ∧
      (diskLoss d r).dispatch = (lostRecords d r).dispatch ∧
      (diskLoss d r).link.disks = (lostRecords d r).link.disks ∧
      ((r.disk d).state = .present → (diskLoss d r).flagSet (.diskDown d) = true) ∧
      ((r.disk d).state = .absent → (diskLoss d r).management = r.management) := by
  cases state : (r.disk d).state with
  | absent =>
    rw [diskLoss_absent state]
    refine ⟨⟨rfl, rfl, rfl, rfl, fun _ => .refl _⟩, rfl, rfl, rfl, fun h => (by cases h), fun _ => ?_⟩
    simp [lostRecords]
  | present =>
    rw [diskLoss_present state]
    refine ⟨raiseFlag_afterwards .., by simp, by simp, by rw [raiseFlag_link], fun _ => ?_, fun h => by cases h⟩
    rw [raiseFlag_flagSet]
    simp

theorem emptiedLanes_disk (d : DiskPort) (r s : State) (e : DiskPort) :
    (emptiedLanes d r s).disk e = if e = d then { s.disk d with lanes := Vector.replicate 4 [] } else s.disk e :=
  State.setDisk_disk_eq ..

/-- A disk loss after events on links alone, and before others. -/
theorem diskLoss_lost {r : State} (before : OnLinks s r) (links : ∀ e, e ≠ d → r.diskLink e = s.diskLink e)
    (behind : OnLinks (diskLoss d r) t) (kept : t.link.disks = (diskLoss d r).link.disks) :
    DiskLost d s t ∧ t.diskLink d = r.diskLink d := by
  have failing := lostStages_failing (d := d) before
  obtain ⟨recorded, stages, dispatch, linked, present, absent⟩ := diskLoss_records d r
  have frame := diskLoss_frame d r
  unfold lostRecords at recorded stages dispatch linked
  generalize (r.stagesOf d).foldl (fun s i => loseStage d i s)
    (r.setDisk d { r.disk d with lanes := Vector.replicate 4 [] }) = u at failing recorded stages dispatch linked
  have swept := failing.swept
  have after : Afterwards u t :=
    (setDisk_afterwards ..).trans ((owePass_afterwards ..).trans (recorded.trans behind.afterwards))
  have links_eq : t.link.disks = r.link.disks := by
    rw [kept, linked, owePass_link]
    exact swept.diskLinks
  have diskLink (e : DiskPort) : t.diskLink e = r.diskLink e := by
    rw [State.diskLink, links_eq]
    rfl
  have disk (e : DiskPort) : t.disk e = if e = d then (u.disk d).lost else u.disk e := by
    rw [State.disk, behind.dispatch, dispatch, ← State.disk, owePass_disk]
    exact State.setDisk_disk_eq ..
  have stage (i : StageIdx) : t.stage i = u.stage i := after.stage i
  have passes : u.stages.passesDue = r.stages.passesDue := by
    rw [swept.passes, before.stages]
    rfl
  have management : t.management = (diskLoss d r).management := behind.management
  have disk_r : r.disk d = s.disk d := by rw [State.disk, before.dispatch]; rfl
  have named (i : StageIdx) (h : (s.stage i).disk = d) (used : (s.stage i).state ≠ .free) : s.ofDisk d i = true := by
    simp [State.ofDisk, h, used]
  have used_of_serves {i : StageIdx} {n : NodePort} {k : SlotIdx} (serves : (s.stage i).serves n k = true) :
      (s.stage i).state ≠ .free := fun free => by
    rw [Stage.serves_of_free free] at serves
    cases serves
  have work := failing.stagesFailed after
  refine ⟨?_, diskLink d⟩
  refine
    { record := ?_
      stages := fun i used here => used ?_
      present := fun h => ?_
      absent := fun h => ?_
      otherDisks := fun e other => ?_
      loan := ?_
      lock := ?_
      meters := ?_
      map := ?_
      nodes := fun n => (swept.nodes n).trans (after.nodes n).more
      otherLinks := fun e other => (diskLink e).trans (links e other)
      work := ⟨work.slots, work.waitLists, work.attempts, work.failed, work.others, work.order, work.inFlight, work.dones⟩
      lanes := fun e other c => ?_
      pass := ?_
      requests := fun i n k here serves => failing.requestFailed after
        (State.onStages_iff.mpr ⟨i, named i here (used_of_serves serves), serves⟩)
      soleRequest := fun i n k here alone serves => failing.soleRequestFailed after
        (named i here (used_of_serves serves)) (fun j other gone => ?_) serves }
  · obtain ⟨lanes, eq⟩ := swept.place.disks.disks d
    rw [disk, if_pos rfl, eq, emptiedLanes_disk, if_pos rfl]
    rfl
  · rw [stage] at here ⊢
    by_cases free : (s.stage i).state = .free
    · exact swept.place.free i free
    · rw [swept.gone i (named i ((swept.place.disk i).symm.trans here) free)]
      rfl
  · rw [State.flagSet, management]
    exact present (by rw [disk_r]; exact h)
  · rw [management, absent (by rw [disk_r]; exact h), before.management]
  · obtain ⟨lanes, eq⟩ := swept.place.disks.disks e
    rw [disk, if_neg other, eq, emptiedLanes_disk, if_neg other]
    exact ⟨lanes, rfl⟩
  · rw [behind.loan, frame.1, before.loan]
  · rw [behind.lock, frame.2.2.1, before.lock]
  · rw [behind.meter, frame.2.1, before.meter]
  · rw [after.lending, swept.map]
    rfl
  · have left := swept.place.lanes e c
    rw [emptiedLanes_disk, if_neg other] at left
    rw [disk, if_neg other, left]
    simp only [stage]
    rfl
  · exact (owePass_passOwed (before := r) (s := u.setDisk d (u.disk d).lost) passes).transport (by rw [before.stages])
      (by rw [before.stages]) (behind.stages.trans stages)
  · simp only [State.ofDisk, Bool.and_eq_true, beq_iff_eq, bne_iff_ne] at gone
    exact absurd gone (fun h => (alone j other).elim h.2 fun away => away h.1)

theorem takeSilence_disk_limit (up : (s.diskLink d).state = .up) (owed : (s.diskLink d).owed = true)
    (limit : s.link.limitRead ≤ (s.diskLink d).silence + 1) :
    takeSilence (.disk d) s = diskLoss d (diskLinkDown d [] s) := by
  rw [takeSilence, if_pos (show s.silenceOwed (.disk d) = true from owed), silenceStep]
  simp only [up]
  rw [if_pos limit]
  rfl

theorem diskLinkDown_diskLink (d : DiskPort) (rest : List DiskFrame) (s : State) :
    ((diskLinkDown d rest s).diskLink d).state = .down ∧ ((diskLinkDown d rest s).diskLink d).silence = 0 ∧
      ((diskLinkDown d rest s).diskLink d).out = rest ∧
      ∀ e, e ≠ d → (diskLinkDown d rest s).diskLink e = s.diskLink e := by
  have link (e : DiskPort) : (diskLinkDown d rest s).diskLink e = _ := State.setDiskLink_diskLink_eq s d _ e
  refine ⟨?_, ?_, ?_, fun e other => by rw [link, if_neg other]⟩ <;> rw [link, if_pos rfl]

/-- A disk link that goes DOWN loses its disk. -/
theorem linkDown_disk_lost (d : DiskPort) (s : State) :
    DiskLost d s (diskLoss d (diskLinkDown d [] s)) ∧
      ((diskLoss d (diskLinkDown d [] s)).diskLink d).state = .down ∧
      ((diskLoss d (diskLinkDown d [] s)).diskLink d).silence = 0 ∧
      ((diskLoss d (diskLinkDown d [] s)).diskLink d).out = [] := by
  obtain ⟨down, silence, out, others⟩ := diskLinkDown_diskLink d [] s
  obtain ⟨lost, link⟩ := diskLoss_lost (d := d) (diskLinkDown_onLinks d [] s) others (.refl _) rfl
  rw [link]
  exact ⟨lost, down, silence, out⟩

/-- Settles O20: each of the events is a disk loss, RESTART PORT after its frame and before its reply. -/
theorem diskLossesFailTheDisksStages : Obligations.DiskLossesFailTheDisksStages := by
  intro d s
  refine ⟨fun down => ?_, fun up => ⟨_, ?_, linkDown_disk_lost d s⟩, fun up owed limit =>
    ⟨_, congrArg Host.Outcome.next (takeSilence_disk_limit up owed limit), linkDown_disk_lost d s⟩,
    fun h p managed port => ?_⟩
  · exact (by simp only [execLinkLossIndication, down] : execLinkLossIndication (.disk d) s = .next s)
  · exact (by simp only [execLinkLossIndication, up]; rfl :
      execLinkLossIndication (.disk d) s = .next (diskLoss d (diskLinkDown d [] s)))
  · have served : serveRestartDisk p (heard h s) = (restartDiskPort d (heard h s), .ok) := by
      have range : p.toNat < 16 := port ▸ d.isLt
      have here : (⟨p.toNat, range⟩ : DiskPort) = d := Fin.ext port
      rw [serveRestartDisk, dif_pos range, here]
    have taken : exec (.restartPortDisk h p) s =
        .next (produceNode h.port (.manageReply h.tag 8 .ok 0 0 []) (restartDiskPort d (heard h s))) := by
      refine congrArg Host.Outcome.next ((manageOp_eq_produced managed 8 _).trans ?_)
      rw [served]
    have reply (u : State) := reply_onLinks h.port (f := .manageReply h.tag 8 .ok 0 0 []) rfl u
    have heardLink (e : DiskPort) : (heard h s).diskLink e = s.diskLink e := by rw [State.diskLink, heard_eq]; rfl
    refine ⟨_, taken, ?_⟩
    cases state : (s.diskLink d).state with
    | up =>
      obtain ⟨down, silence, out, others⟩ := diskLinkDown_diskLink d [.drop] (heard h s)
      have restart : restartDiskPort d (heard h s) = diskLoss d (diskLinkDown d [.drop] (heard h s)) := by
        simp only [restartDiskPort, heardLink, state]
      rw [restart]
      obtain ⟨lost, link⟩ := diskLoss_lost (d := d)
        ((heard_onLinks h s).trans (diskLinkDown_onLinks d [.drop] (heard h s)))
        (fun e other => (others e other).trans (heardLink e)) (reply _) (produceNode_link_disks ..)
      rw [link]
      exact ⟨lost, down, fun _ => ⟨silence, out⟩⟩
    | down =>
      have restart : restartDiskPort d (heard h s) = diskLoss d (heard h s) := by
        simp only [restartDiskPort, heardLink, state]
      rw [restart]
      obtain ⟨lost, link⟩ := diskLoss_lost (d := d) (heard_onLinks h s) (fun e _ => heardLink e) (reply _)
        (produceNode_link_disks ..)
      rw [link, heardLink, state]
      exact ⟨lost, rfl, fun h => by cases h⟩

end

end Sys2Proof.Machine
end

section
/-! PROOFS. Requests of one node that are withdrawn together (R83, R85), and the claims that are dropped with them. -/

namespace Sys2Proof.Machine

/-! ## The requests of one node -/

/-- The requests in the slots of the list, of node n alone. -/
def requestsAt (n : NodePort) (l : List SlotIdx) : NodePort → SlotIdx → Bool :=
  addingAll (fun _ _ => false) (slotsAt n l)

theorem requestsAt_eq_true {n m : NodePort} {l : List SlotIdx} {k : SlotIdx} :
    requestsAt n l m k = true ↔ m = n ∧ k ∈ l := by
  rw [requestsAt, addingAll_eq_true, slotsAt, List.mem_map]
  simp only [Prod.mk.injEq, Bool.false_eq_true, false_or]
  exact ⟨fun ⟨x, mem, node, slot⟩ => ⟨node.symm, slot ▸ mem⟩, fun ⟨node, mem⟩ => ⟨k, mem, node.symm, rfl⟩⟩

/-- From s to t nothing that requests of others rest on changed, and node links gained no DONE. -/
structure Beside (s t : State) : Prop where
  admission : t.admission = s.admission
  lending : t.lending = s.lending
  meter : t.meter = s.meter
  stages : t.stages = s.stages
  dispatch : t.dispatch = s.dispatch
  lock : t.lock = s.lock
  diskLinks : t.link.disks = s.link.disks
  nodes : ∀ n, Undone (s.node n) (t.node n)

section
variable {s r t u : State} {n : NodePort} {l : List SlotIdx} {status : Option Status}

theorem Beside.refl (s : State) : Beside s s := ⟨rfl, rfl, rfl, rfl, rfl, rfl, rfl, fun _ => .refl _⟩

theorem Beside.trans (first : Beside s t) (second : Beside t u) : Beside s u where
  admission := second.admission.trans first.admission
  lending := second.lending.trans first.lending
  meter := second.meter.trans first.meter
  stages := second.stages.trans first.stages
  dispatch := second.dispatch.trans first.dispatch
  lock := second.lock.trans first.lock
  diskLinks := second.diskLinks.trans first.diskLinks
  nodes n := (first.nodes n).trans (second.nodes n)

theorem setLoan_beside (i : LoanIdx) (x : Loan) (s : State) : Beside s (s.setLoan i x) :=
  ⟨rfl, rfl, rfl, rfl, rfl, rfl, rfl, fun _ => .refl _⟩

theorem loanNotice_beside (i : LoanIdx) (x : NoticeState) (s : State) : Beside s (loanNotice i x s) := by
  refine ⟨by simp, by simp, by simp, by simp, by simp, by simp, ?_, loanNotice_undone i x s⟩
  unfold loanNotice
  split
  · exact produceNode_link_disks ..
  · rfl

theorem raiseFlag_beside (f : Flag) (x : Nat) (s : State) : Beside s (raiseFlag f x s) :=
  ⟨by simp, by simp, by simp, by simp, by simp, by simp, by rw [raiseFlag_link], raiseFlag_undone f x s⟩

theorem OnLinks.beside (links : OnLinks s t) (disks : t.link.disks = s.link.disks) : Beside s t :=
  ⟨links.admission, links.lending, links.meter, links.stages, links.dispatch, links.lock, disks, links.nodes⟩

theorem Beside.swept (beside : Beside s r) : Swept (fun _ => false) (fun _ _ => false) s r :=
  .of_same beside.admission beside.lending beside.stages beside.dispatch beside.diskLinks fun n => (beside.nodes n).more

theorem Beside.slot (beside : Beside s r) (n : NodePort) (k : SlotIdx) : r.slot n k = s.slot n k := by
  rw [State.slot, State.desk, beside.admission]
  rfl

theorem Beside.desk (beside : Beside s r) (n : NodePort) : r.desk n = s.desk n := by
  rw [State.desk, beside.admission]
  rfl

/-- The requests of the list end in turn. -/
theorem endRequests_swept (beside : Swept (fun _ => false) (fun _ _ => false) s r) (n : NodePort)
    (status : Option Status) (l : List SlotIdx) :
    Swept (fun _ => false) (requestsAt n l) s (l.foldl (fun s k => endRequest n k status s) r) :=
  beside.endRequests n status l

theorem endRequests_lowered_of {E : NodePort → SlotIdx → Bool} (swept : Swept (fun _ => false) E s t)
    (lowered : Lowered E s t) (once : l.Nodup) (new : ∀ k ∈ l, E n k = false) :
    Lowered (addingAll E (slotsAt n l)) s (l.foldl (fun s k => endRequest n k status s) t) := by
  induction l generalizing E t with
  | nil => rwa [slotsAt, List.map_nil, addingAll_nil]
  | cons k l ih =>
    rw [slotsAt, List.map_cons, addingAll_cons]
    have new_k := new k List.mem_cons_self
    have clean : Clean (fun _ => false) E s := fun i named => absurd named Bool.false_ne_true
    have volumes (v : Volume) : t.volume v =
        { t.volume v with inFlight := (t.volume v).inFlight - (if v = (t.slot n k).volume then 0 else 0) } := by
      rw [ite_self, Nat.sub_zero]
    refine ih (swept.endRequest n k status)
      (lowered.step swept new_k (c := 0) (swept.attached_of_clean clean new_k).symm (fun _ _ => rfl) rfl volumes status)
      (List.nodup_cons.mp once).2 fun j mem => ?_
    rw [Bool.eq_false_iff]
    intro named
    obtain old | ⟨-, rfl⟩ := adding_eq_true.mp named
    · rw [new j (List.mem_cons_of_mem k mem)] at old
      cases old
    · exact (List.nodup_cons.mp once).1 mem

theorem endRequests_lowered (beside : Swept (fun _ => false) (fun _ _ => false) s r)
    (volumes : r.lending = s.lending) (once : l.Nodup) :
    Lowered (requestsAt n l) s (l.foldl (fun s k => endRequest n k status s) r) := by
  refine endRequests_lowered_of beside (fun v => ?_) once fun _ _ => rfl
  rw [State.weight_none, State.volume, volumes]
  rfl

theorem State.weight_requestsAt (s : State) (n : NodePort) (l : List SlotIdx) (v : Volume) :
    s.weight (requestsAt n l) v =
      ((slotIdxs.filter fun k => decide (k ∈ l) && (s.slot n k).volume == v).map fun k => s.attached n k).sum := by
  rw [State.weight_eq, Finset.sum_eq_single n, sum_map_filter, Fin.sum_univ_def]
  · refine congrArg List.sum (List.map_congr_left fun k _ => ?_)
    have here : requestsAt n l n k = decide (k ∈ l) := by
      rw [Bool.eq_iff_iff, requestsAt_eq_true]
      simp
    rw [here]
  · intro m _ other
    refine Finset.sum_eq_zero fun k _ => if_neg ?_
    have beside : requestsAt n l m k = false := by
      rw [Bool.eq_false_iff]
      exact fun named => other (requestsAt_eq_true.mp named).1
    simp [beside]
  · exact fun out => absurd (Finset.mem_univ n) out

/-- The desks of other nodes stay. -/
theorem endRequests_otherDesk {m : NodePort} (other : m ≠ n) (status : Option Status) (l : List SlotIdx) (s : State) :
    (l.foldl (fun s k => endRequest n k status s) s).desk m = s.desk m := by
  refine foldl_keeps (fun s : State => s.desk m) (fun s k => endRequest n k status s) (fun s k => ?_) l s
  have ended : (endRequest n k none s).desk m = s.desk m := by
    rw [endRequest_none_desk, freeSlot_desk, if_neg other]
  cases status with
  | none => exact ended
  | some status =>
    rw [endRequest_some, State.desk, (produceNode_frame ..).1]
    exact ended

/-- Requests that end with a status get their DONE frames in the order of the list. -/
theorem endRequests_out (status : Status) (once : l.Nodup) (up : (s.node n).state = .up) :
    ((l.foldl (fun s k => endRequest n k (some status) s) s).node n).out = (s.node n).out ++
      l.map fun k => .done (s.slot n k).tag status (s.slot n k).delivered := by
  induction l generalizing s with
  | nil => exact (List.append_nil _).symm
  | cons k l ih =>
    have swept := (Swept.refl s).endRequest n k (some status)
    obtain ⟨fresh, once⟩ := List.nodup_cons.mp once
    rw [List.foldl_cons, ih once ((swept.nodes n).state.trans up), endRequest_some_out, if_pos ⟨rfl, up⟩, List.map_cons,
      List.append_assoc]
    refine congrArg ((s.node n).out ++ .done (s.slot n k).tag status (s.slot n k).delivered :: ·) ?_
    refine List.map_congr_left fun j mem => ?_
    have other : adding (fun _ _ => false) n k n j = false := by
      rw [Bool.eq_false_iff]
      intro named
      obtain old | ⟨-, rfl⟩ := adding_eq_true.mp named
      · cases old
      · exact fresh mem
    rw [swept.slot_of_new other]

/-! ## What the statements say of withdrawn requests -/

theorem Stage.account_withdrawn {st : Stage} {E : NodePort → SlotIdx → Bool} {o : Owner} (store : st.kind = .store)
    (alone : st.waiters = []) (used : st.state ≠ .free) (owner : st.owner = some o) (named : E o.node o.slot = true) :
    (st.withdrawn E).account = if st.state = .queued ∨ st.state = .retrying then 0 else st.count := by
  have hit : st.servesAny E = true := by
    rw [Stage.servesAny, store]
    simpa [owner] using named
  have left : (st.withoutAny E) = { st with owner := none } := by
    rw [Stage.withoutAny, store]
  rw [Stage.withdrawn_of_hit hit used, left, Stage.settled, if_neg (by simp [alone])]
  have used' : (st.state != .free) = true := bne_iff_ne.mpr used
  split
  · rfl
  · simp [Stage.account, used', store]

/-- What t leaves of u is all that a withdrawal speaks of. -/
structure Keeping (u t : State) : Prop where
  slots : ∀ n k, t.slot n k = u.slot n k
  table : t.stages.table = u.stages.table
  order : t.stages.order = u.stages.order
  dispatch : t.dispatch = u.dispatch
  lending : t.lending = u.lending

theorem Keeping.trans {x : State} (first : Keeping u t) (second : Keeping t x) : Keeping u x where
  slots n k := (second.slots n k).trans (first.slots n k)
  table := second.table.trans first.table
  order := second.order.trans first.order
  dispatch := second.dispatch.trans first.dispatch
  lending := second.lending.trans first.lending

theorem Keeping.of_eq (admission : t.admission = u.admission) (stages : t.stages = u.stages)
    (dispatch : t.dispatch = u.dispatch) (lending : t.lending = u.lending) : Keeping u t :=
  ⟨fun n k => by rw [State.slot, State.desk, admission]; rfl, by rw [stages], by rw [stages], dispatch, lending⟩

theorem owePass_keeping (before s : State) : Keeping s (owePass before s) := by
  unfold owePass
  split <;> exact ⟨fun _ _ => rfl, rfl, rfl, rfl, rfl⟩

theorem setDesk_keeping {x : Desk} (slots : x.slots = (s.desk n).slots) : Keeping s (s.setDesk n x) := by
  refine ⟨fun m k => ?_, rfl, rfl, rfl, rfl⟩
  rw [State.slot, State.setDesk_desk_eq]
  split
  · next same =>
    subst same
    simp only [slots]
    rfl
  · rfl

theorem noteHead_keeping (n : NodePort) (before s : State) : Keeping s (noteHead n before s) := by
  obtain ⟨due, eq⟩ := noteHead_eq n before s
  rw [eq]
  exact setDesk_keeping rfl

theorem withdrawn_of_swept {p : SlotIdx → Bool} (names : ∀ k, k ∈ l ↔ p k = true ∧ (s.slot n k).state ≠ .free)
    (swept : Swept (fun _ => false) (requestsAt n l) s u) (lowered : Lowered (requestsAt n l) s u)
    (kept : Keeping u t) : Withdrawn n p s t := by
  have stage (i : StageIdx) : t.stage i = u.stage i := by rw [State.stage, kept.table]; rfl
  have disk (d : DiskPort) : t.disk d = u.disk d := by rw [State.disk, kept.dispatch]; rfl
  have requests : requestsAt n l = fun m k => m == n && p k && (s.slot n k).state != .free := by
    funext m k
    rw [Bool.eq_iff_iff, requestsAt_eq_true, names]
    simp [and_assoc]
  have withdrawn (i : StageIdx) :
      t.stage i = (s.stage i).withdrawn fun m k => m == n && p k && (s.slot n k).state != .free := by
    rw [stage, swept.others i rfl, requests]
  refine ⟨fun k => ?_, withdrawn, ?_, fun d => ?_, fun d c => ?_, fun i o store alone used owner node named inUse => ?_,
    fun v => ?_⟩
  · rw [kept.slots, swept.slots]
    by_cases here : p k = true ∧ (s.slot n k).state ≠ .free
    · rw [if_pos here, if_pos (requestsAt_eq_true.mpr ⟨rfl, (names k).mpr here⟩)]
    · rw [if_neg here, if_neg fun named => here ((names k).mp (requestsAt_eq_true.mp named).2)]
  · rw [kept.order, swept.place.order]
    simp only [stage]
  · rw [disk]
    exact swept.place.disks.disks d
  · rw [disk, swept.place.lanes d c]
    simp only [stage]
  · rw [withdrawn]
    refine Stage.account_withdrawn store alone used owner ?_
    simp [node, named, inUse]
  · have volume : t.volume v = u.volume v := by rw [State.volume, kept.lending]; rfl
    rw [volume, lowered v, State.weight_requestsAt]
    have same : (fun k => decide (k ∈ l) && (s.slot n k).volume == v) =
        fun k => p k && (s.slot n k).state != .free && (s.slot n k).volume == v := by
      funext k
      rw [Bool.eq_iff_iff]
      simp [names, and_assoc]
    rw [same]
    rfl

end

/-! ## Claims that are dropped (R38, R56, R167) -/

section
variable {s : State}

/-- A handoff makes no claim that was not pending. -/
theorem handOff_claims (s : State) :
    (∀ a, (handOff s).lock.active = some a → a.claim ∈ s.lock.pendingClaims) ∧
      ∀ c ∈ (handOff s).lock.pendingClaims, c ∈ s.lock.pendingClaims := by
  unfold handOff
  split
  · exact ⟨fun _ active => (by cases active), fun _ mem => absurd mem List.not_mem_nil⟩
  · next c rest eq =>
    have sub : c :: rest ⊆ s.lock.pendingClaims := eq ▸ (List.dropWhile_sublist _).subset
    obtain ⟨lock, -⟩ := activateClaim_eq c { s with lock := { s.lock with pendingClaims := rest } }
    rw [lock]
    refine ⟨fun a active => ?_, fun x mem => sub (List.mem_cons_of_mem c mem)⟩
    cases active
    exact sub List.mem_cons_self

/-- What is left of claims has not the property. -/
theorem dropClaims_claims (p : Claim → Bool) (s : State) :
    (∀ a, (dropClaims p s).lock.active = some a → p a.claim = false) ∧
      ∀ c ∈ (dropClaims p s).lock.pendingClaims, p c = false := by
  have kept {c : Claim} (mem : c ∈ s.lock.pendingClaims.filter fun c => !p c) : p c = false := by
    simpa using (List.mem_filter.mp mem).2
  obtain ⟨active, eq⟩ | ⟨a, -, -, eq⟩ := dropClaims_cases p s <;> rw [eq]
  · exact ⟨active, fun c mem => kept mem⟩
  · obtain ⟨active, pending⟩ := handOff_claims
      { s with lock := { s.lock with pendingClaims := s.lock.pendingClaims.filter fun c => !p c } }
    exact ⟨fun a h => kept (active a h), fun c mem => kept (pending c mem)⟩

theorem dropClaims_undone (p : Claim → Bool) (s : State) (n : NodePort) :
    Undone (s.node n) ((dropClaims p s).node n) := by
  obtain ⟨-, eq⟩ | ⟨a, -, -, eq⟩ := dropClaims_cases p s <;> rw [eq]
  · exact .refl _
  · exact handOff_undone
      { s with lock := { s.lock with pendingClaims := s.lock.pendingClaims.filter fun c => !p c } } n

theorem freeLocks_lockAt (p : Lock → Bool) (s : State) (k : LockIdx) :
    (freeLocks p s).lockAt k = if p (s.lockAt k) = true then (s.lockAt k).freed else s.lockAt k :=
  tableMap_getElem ..

end

end Sys2Proof.Machine
end

section
/-! PROOFS. The end of a loan in force: lapse and revoke (R35 to R38, R41). -/

namespace Sys2Proof.Machine

section
variable {s r t u : State} {n : NodePort} {v : Volume} {status : Status}

theorem State.mem_slotsOn {k : SlotIdx} :
    k ∈ s.slotsOn n v ↔ ((s.slot n k).volume == v) = true ∧ (s.slot n k).state ≠ .free := by
  rw [State.slotsOn, mem_tableFilter]
  simp only [Bool.and_eq_true, bne_iff_ne]
  exact and_comm

theorem State.slotsOn_eq (s : State) (n : NodePort) (v : Volume) :
    s.slotsOn n v = slotIdxs.filter fun k => (s.slot n k).state != .free && (s.slot n k).volume == v :=
  tableFilter_eq_filter ..

theorem Beside.slotsOn (beside : Beside s r) (n : NodePort) (v : Volume) : r.slotsOn n v = s.slotsOn n v := by
  rw [State.slotsOn, beside.desk]
  rfl

theorem owePass_desk (before s : State) (n : NodePort) : (owePass before s).desk n = s.desk n := by
  rw [State.desk, (owePass_frame before s).2.1]
  rfl

theorem dropClaims_desk (p : Claim → Bool) (s : State) (n : NodePort) : (dropClaims p s).desk n = s.desk n := by
  rw [State.desk, show (dropClaims p s).admission = s.admission by simp]
  rfl

theorem dropClaims_diskLinks (p : Claim → Bool) (s : State) : (dropClaims p s).link.disks = s.link.disks :=
  congrArg (·.link.disks) (show _ = _ from dropClaims_onLocks p s)

theorem freeLocks_desk (p : Lock → Bool) (s : State) (n : NodePort) : (freeLocks p s).desk n = s.desk n := rfl

theorem noteHead_desk_ne {m : NodePort} (other : m ≠ n) (before s : State) : (noteHead n before s).desk m = s.desk m := by
  obtain ⟨due, eq⟩ := noteHead_eq n before s
  rw [eq]
  exact State.setDesk_desk_ne _ _ _ _ other

theorem noteHead_waitList (n : NodePort) (before s : State) :
    ((noteHead n before s).desk n).waitList = (s.desk n).waitList := by
  obtain ⟨due, eq⟩ := noteHead_eq n before s
  rw [eq, State.setDesk_desk]

/-- The attempts owed after an event at a wait list (R75). -/
theorem noteHead_attempts (n : NodePort) (before s : State) :
    ((noteHead n before s).desk n).attemptsDue =
      if (s.desk n).waitList = [] then 0
      else if s.headOf n = before.headOf n then (s.desk n).attemptsDue
      else (s.desk n).attemptsDue + 1 := by
  have some_of {k : SlotIdx} (head : s.headOf n = some k) : (s.desk n).waitList ≠ [] := fun empty => by
    rw [State.headOf, empty] at head
    cases head
  obtain ⟨none, eq⟩ | ⟨k, head, same, eq⟩ | ⟨k, head, differs, eq⟩ := noteHead_cases n before s
  · rw [eq, State.setDesk_desk, if_pos (List.head?_eq_none_iff.mp none)]
  · rw [eq, if_neg (some_of head), if_pos (head.trans same.symm)]
  · rw [eq, if_neg (some_of head), if_neg fun same => differs (same.symm.trans head), startAttempt, State.setDesk_desk]

/-- What a state after the end of a loan's work has kept of it, but for frames that are no DONE. -/
structure Settled (x t : State) : Prop where
  links : OnLinks x t
  diskLinks : t.link.disks = x.link.disks

theorem Settled.refl (s : State) : Settled s s := ⟨.refl s, rfl⟩

theorem reply_settled (n : NodePort) {f : NodeFrame} (noDone : f.noDone = true) (s : State) :
    Settled s (produceNode n f s) := ⟨reply_onLinks n noDone s, produceNode_link_disks n f s⟩

/-- The end of a loan's work, after frames that are no DONE and a change of the loan alone, and before such frames. -/
theorem endLoanWork_ended (beside : Beside s r) (behind : Settled (endLoanWork n v status r) t) :
    LoanEnded n v status s t := by
  have once : (s.slotsOn n v).Nodup := by
    rw [State.slotsOn_eq]
    exact slotIdxs_nodup.filter _
  have swept := endRequests_swept beside.swept n (some status) (s.slotsOn n v)
  have lowered := endRequests_lowered (n := n) (status := some status) beside.swept beside.lending once
  have out := endRequests_out (s := r) (n := n) status once
  have others {m : NodePort} (other : m ≠ n) := endRequests_otherDesk other (some status) (s.slotsOn n v) r
  have frame := endRequests_frame n (some status) (s.slotsOn n v) r
  unfold endLoanWork at behind
  rw [beside.slotsOn] at behind
  dsimp only at behind
  generalize (s.slotsOn n v).foldl (fun s k => endRequest n k (some status) s) r = u
    at swept lowered out others frame behind
  obtain ⟨w, w_eq⟩ : ∃ w, w = noteHead n r (owePass r u) := ⟨_, rfl⟩
  obtain ⟨x, x_eq⟩ : ∃ x, x = freeLocks (fun l => l.state == .held && l.holder == n && l.volume == v) w := ⟨_, rfl⟩
  obtain ⟨y, y_eq⟩ : ∃ y, y = dropClaims (fun c => c.node == n && c.volume == v) x := ⟨_, rfl⟩
  rw [← w_eq, ← x_eq, ← y_eq] at behind
  have kept_w : Keeping u w := by
    rw [w_eq]
    exact (owePass_keeping r u).trans (noteHead_keeping ..)
  have kept_y : Keeping w y := by
    rw [y_eq, x_eq]
    exact .of_eq (by simp) (by simp) (by simp) (by simp)
  have kept : Keeping u t := kept_w.trans (kept_y.trans (.of_eq behind.links.admission behind.links.stages
    behind.links.dispatch behind.links.lending))
  have desk (m : NodePort) : t.desk m = w.desk m := by
    rw [State.desk, behind.links.admission, ← State.desk, y_eq, dropClaims_desk, x_eq, freeLocks_desk]
  have link_w : w.link = u.link := by
    rw [w_eq, (noteHead_frame ..).1, owePass_link]
  have node_x (m : NodePort) : x.node m = u.node m := by
    rw [State.node, x_eq, (freeLocks_frame ..).1, link_w]
    rfl
  have after (m : NodePort) : Undone (u.node m) (t.node m) := by
    refine Undone.trans ?_ (behind.links.nodes m)
    rw [← node_x, y_eq]
    exact dropClaims_undone ..
  have stages_t : t.stages = (owePass r u).stages := by
    rw [behind.links.stages, y_eq, x_eq, w_eq]
    simp
  have lock_w : w.lock = s.lock := by
    rw [w_eq, (noteHead_frame ..).2.2.2.2.2.2.1, show (owePass r u).lock = u.lock by simp, frame.2.2.1, beside.lock]
  have lock_t : t.lock = y.lock := behind.links.lock
  have lock_y := dropClaims_lock (fun c => c.node == n && c.volume == v) x
  have claims := dropClaims_claims (fun c => c.node == n && c.volume == v) x
  rw [← y_eq] at lock_y claims
  have named (k : SlotIdx) : requestsAt n (s.slotsOn n v) n k = true ↔
      (s.slot n k).volume = v ∧ (s.slot n k).state ≠ .free := by
    rw [requestsAt_eq_true, State.mem_slotsOn, beq_iff_eq]
    exact and_iff_right rfl
  refine
    { work := withdrawn_of_swept (fun k => State.mem_slotsOn) swept lowered kept
      dones := fun up => ?_
      slots := fun k volume => ?_
      otherSlots := fun k volume => ?_
      waitList := ?_
      attempts := ?_
      pass := ?_
      otherDesks := fun m other => ?_
      locks := fun k => ?_
      active := fun a active => ?_
      pending := fun c mem => ?_
      retry := ?_
      meter := ?_
      map := ?_
      nodes := fun m => (swept.nodes m).trans (after m).more
      diskLinks := ?_
      disks := fun d => ?_ }
  · obtain ⟨before, eq, none⟩ := (beside.nodes n).out
    obtain ⟨notices, more, none'⟩ := (after n).out
    refine ⟨before, notices, ?_, by rw [List.all_append, none, none']; rfl⟩
    rw [more, out ((beside.nodes n).more.state.trans up), eq, State.slotsOn_eq]
    simp only [beside.slot]
  · rw [kept.slots, swept.slots]
    by_cases free : (s.slot n k).state = .free
    · rw [if_neg fun h => ((named k).mp h).2 free]
      exact free
    · rw [if_pos ((named k).mpr ⟨volume, free⟩)]
      rfl
  · rw [kept.slots, swept.slots, if_neg fun h => volume ((named k).mp h).1]
  · rw [desk, w_eq, noteHead_waitList, owePass_desk, swept.waitLists]
    refine List.filter_congr fun k _ => ?_
    rw [Bool.eq_iff_iff, Bool.not_eq_true', Bool.eq_false_iff, ne_eq, named]
    simp only [Bool.or_eq_true, beq_iff_eq, bne_iff_ne]
    tauto
  · have head_r : r.headOf n = s.headOf n := by rw [State.headOf, beside.desk]; rfl
    have head_u : (owePass r u).headOf n = u.headOf n := by rw [State.headOf, owePass_desk]; rfl
    have waits : (t.desk n).waitList = (u.desk n).waitList := by rw [desk, w_eq, noteHead_waitList, owePass_desk]
    have head_t : t.headOf n = u.headOf n := by rw [State.headOf, waits]; rfl
    rw [waits, head_t, desk, w_eq, noteHead_attempts, owePass_desk, head_u, head_r, swept.attempts]
  · have passes : u.stages.passesDue = r.stages.passesDue := by rw [swept.passes, beside.stages]
    exact (owePass_passOwed passes).transport (by rw [beside.stages]) (by rw [beside.stages]) stages_t
  · rw [desk, w_eq, noteHead_desk_ne other, owePass_desk, others other, beside.desk]
  · rw [State.lockAt, lock_t, lock_y]
    have same : w.lockAt k = s.lockAt k := by rw [State.lockAt, lock_w]; rfl
    change x.lockAt k = _
    rw [x_eq, freeLocks_lockAt, same]
    simp only [Bool.and_eq_true, beq_iff_eq, and_assoc]
    rfl
  · have away := claims.1 a (lock_t ▸ active)
    simpa using away
  · have away := claims.2 c (lock_t ▸ mem)
    simpa using away
  · rw [lock_t, lock_y, x_eq, freeLocks, lock_w]
  · rw [behind.links.meter, y_eq, x_eq, w_eq]
    simp [frame.2.1, beside.meter]
  · rw [kept.lending, swept.map]
  · rw [behind.diskLinks, y_eq, dropClaims_diskLinks, x_eq, (freeLocks_frame ..).1, link_w, swept.diskLinks]
  · have disk : t.disk d = u.disk d := by rw [State.disk, kept.dispatch]; rfl
    rw [disk]
    exact swept.place.disks.disks d

end

/-! ## The notices of a loan, and its ageing (R32, R35, R36) -/

section
variable {s : State} {i : LoanIdx}

theorem loanNotice_out (i : LoanIdx) (x : NoticeState) (s : State) (n : NodePort) :
    ((loanNotice i x s).node n).out =
      if n = (s.loanAt i).node ∧ (s.node n).state = .up then
        (s.node n).out ++ [.loanNotice (s.loanAt i).volume x (some (s.loanDetail i))]
      else (s.node n).out := by
  unfold loanNotice
  split
  · next up =>
    rw [produceNode_node]
    by_cases same : n = (s.loanAt i).node
    · subst same
      simp only [up, if_true, and_self]
    · rw [if_neg same, if_neg fun h => same h.1]
  · next down =>
    rw [if_neg]
    rintro ⟨rfl, up⟩
    rw [down] at up
    cases up

theorem loanNotice_eq (i : LoanIdx) (x : NoticeState) (s : State) :
    loanNotice i x s = { s with link := { s.link with nodes := (loanNotice i x s).link.nodes } } := by
  unfold loanNotice
  split <;> rfl

theorem Loan.ages_iff {l : Loan} : l.ages = true ↔ l.inForce = true ∧ 0 < l.term := by simp [Loan.ages]

theorem Loan.atTerm_iff {l : Loan} : l.atTerm = true ↔ l.term ≤ l.age + 1 := by simp [Loan.atTerm]

theorem Loan.atHalf_iff {l : Loan} :
    l.atHalf = true ↔ l.state = .active ∧ 1 ≤ l.term / 2 ∧ l.age + 1 = l.term / 2 := by
  simp [Loan.atHalf, and_assoc]

/-- The record of a loan that its half term makes DUE. -/
def Loan.madeDue (l : Loan) : Loan := { l with state := .due, age := l.age + 1, owed := false }

/-- The record of a loan that its term lapses. -/
def Loan.lapsedNow (l : Loan) : Loan := { l with state := .lapsed, age := l.age + 1, owed := false }

theorem takeDue_half (owed : (s.loanAt i).owed = true) (half : (s.loanAt i).atHalf = true) :
    takeDue i s = loanNotice i .due (s.setLoan i (s.loanAt i).madeDue) := by
  obtain ⟨active, one, age⟩ := Loan.atHalf_iff.mp half
  have ages : (s.loanAt i).ages = true := Loan.ages_iff.mpr ⟨Loan.inForce_iff.mpr (.inl active), by omega⟩
  have early : (s.loanAt i).atTerm = false := by
    rw [Bool.eq_false_iff, ne_eq, Loan.atTerm_iff]
    omega
  rw [takeDue, early, Bool.and_false, if_neg Bool.false_ne_true, takeLoanStep, if_pos owed, loanStep]
  simp only [ages, early, half, Bool.not_true, Bool.false_eq_true, if_false, if_true]
  rfl

theorem takeLapse_term (owed : (s.loanAt i).owed = true) (ages : (s.loanAt i).ages = true)
    (term : (s.loanAt i).atTerm = true) : takeLapse i s = lapseLoan i s := by
  rw [takeLapse, ages, term, Bool.true_and, if_pos rfl, takeLoanStep, if_pos owed, loanStep]
  simp only [ages, term, Bool.not_true, Bool.false_eq_true, if_false, if_true]

/-- The state of a lapse before the loan's work is ended. -/
def lapseNoted (i : LoanIdx) (s : State) : State :=
  raiseFlag .loanLapse i.val (loanNotice i .lapsed (s.setLoan i (s.loanAt i).lapsedNow))

theorem lapseNoted_beside (i : LoanIdx) (s : State) : Beside s (lapseNoted i s) :=
  (setLoan_beside ..).trans ((loanNotice_beside ..).trans (raiseFlag_beside ..))

theorem lapseLoan_eq (i : LoanIdx) (s : State) :
    lapseLoan i s = endLoanWork (s.loanAt i).node (s.loanAt i).volume .loanLapsed (lapseNoted i s) := rfl

theorem MoreFrames.first {r x y : NodeLink} {f : NodeFrame} (first : x.out = r.out ++ [f]) (more : MoreFrames x y) :
    ∃ frames, y.out = r.out ++ f :: frames := by
  obtain ⟨frames, eq⟩ := more.out
  exact ⟨frames, by rw [eq, first, List.append_assoc]; rfl⟩

theorem LoanEnded.loanAt_of {t u : State} (loan : t.loan = u.loan) (j : LoanIdx) : t.loanAt j = u.loanAt j := by
  rw [State.loanAt, loan]
  rfl

/-- Node links only gain frames while a loan's work is ended. -/
theorem endLoanWork_moreFrames (n : NodePort) (v : Volume) (status : Status) (r : State) (m : NodePort) :
    MoreFrames (r.node m) ((endLoanWork n v status r).node m) :=
  (endLoanWork_ended (.refl r) (.refl _)).nodes m

theorem endLoanWork_management (n : NodePort) (v : Volume) (status : Status) (r : State) :
    ∃ w : State, w.management = r.management ∧
      endLoanWork n v status r = dropClaims (fun c => c.node == n && c.volume == v) w := by
  refine ⟨_, ?_, rfl⟩
  simp

/-- Dropped claims change no flag but LOCKOUT, and no detail. -/
theorem dropClaims_flags (p : Claim → Bool) (s : State) :
    (∀ f, f ≠ .lockout → (dropClaims p s).flagSet f = s.flagSet f) ∧
      (dropClaims p s).management.loanLapseDetail = s.management.loanLapseDetail := by
  have activated (c : Claim) (u : State) : (∀ f, f ≠ .lockout → (activateClaim c u).flagSet f = u.flagSet f) ∧
      (activateClaim c u).management.loanLapseDetail = u.management.loanLapseDetail :=
    ⟨fun f other => activateClaim_flagSet other c u, raiseFlag_detailOf .lockout .loanLapse 0 _⟩
  obtain ⟨-, eq⟩ | ⟨a, -, -, eq⟩ := dropClaims_cases p s <;> rw [eq]
  · exact ⟨fun _ _ => rfl, rfl⟩
  · unfold handOff
    split
    · exact ⟨fun _ _ => rfl, rfl⟩
    · exact activated ..

/-- Settles O25: at half its term the owed step makes the loan DUE, at its term it lapses it, each notice first. -/
theorem ageingMakesLoansDueAndLapsesThem : Obligations.AgeingMakesLoansDueAndLapsesThem := by
  intro i s owed
  refine ⟨fun active one age => ?_, fun inForce positive term => ?_⟩
  · have half := Loan.atHalf_iff.mpr ⟨active, one, age⟩
    obtain ⟨u, eq⟩ : ∃ u, u = s.setLoan i (s.loanAt i).madeDue := ⟨_, rfl⟩
    have loan (j : LoanIdx) : u.loanAt j = if j = i then (s.loanAt i).madeDue else s.loanAt j := by
      rw [eq]
      exact State.setLoan_loanAt_eq ..
    have node (n : NodePort) : u.node n = s.node n := by rw [eq]; rfl
    have kept : (loanNotice i .due u).loan = u.loan := by simp
    refine ⟨loanNotice i .due u, congrArg Host.Outcome.next (eq ▸ takeDue_half owed half), ?_, fun j other => ?_,
      fun n => ?_, ?_⟩
    · rw [LoanEnded.loanAt_of kept, loan, if_pos rfl]
      rfl
    · rw [LoanEnded.loanAt_of kept, loan, if_neg other]
    · rw [loanNotice_out, node, State.loanDetail, loan, if_pos rfl]
      rfl
    · rw [kept, loanNotice_eq i .due u, eq]
      rfl
  · have ages := Loan.ages_iff.mpr ⟨inForce, positive⟩
    have atTerm := Loan.atTerm_iff.mpr term
    obtain ⟨u, eq⟩ : ∃ u, u = s.setLoan i (s.loanAt i).lapsedNow := ⟨_, rfl⟩
    have loan (j : LoanIdx) : u.loanAt j = if j = i then (s.loanAt i).lapsedNow else s.loanAt j := by
      rw [eq]
      exact State.setLoan_loanAt_eq ..
    obtain ⟨r, r_eq⟩ : ∃ r, r = lapseNoted i s := ⟨_, rfl⟩
    have raised : r = raiseFlag .loanLapse i.val (loanNotice i .lapsed u) := by rw [r_eq, eq]; rfl
    have beside : Beside s r := r_eq ▸ lapseNoted_beside i s
    have ended := endLoanWork_ended (n := (s.loanAt i).node) (v := (s.loanAt i).volume) (status := .loanLapsed) beside
      (.refl _)
    have more := endLoanWork_moreFrames (s.loanAt i).node (s.loanAt i).volume .loanLapsed r
    have kept : (endLoanWork (s.loanAt i).node (s.loanAt i).volume .loanLapsed r).loan = u.loan := by
      rw [(endLoanWork_frame ..).1, raised]
      simp
    obtain ⟨w, noted, dropped⟩ := endLoanWork_management (s.loanAt i).node (s.loanAt i).volume .loanLapsed r
    have taken : takeLapse i s = endLoanWork (s.loanAt i).node (s.loanAt i).volume .loanLapsed r := by
      rw [takeLapse_term owed ages atTerm, lapseLoan_eq, r_eq]
    generalize endLoanWork (s.loanAt i).node (s.loanAt i).volume .loanLapsed r = t at ended more kept dropped taken
    refine ⟨t, congrArg Host.Outcome.next taken, ?_, fun j other => ?_, ?_, ?_, fun up => ?_, ended⟩
    · rw [LoanEnded.loanAt_of kept, loan, if_pos rfl]
      rfl
    · rw [LoanEnded.loanAt_of kept, loan, if_neg other]
    · rw [dropped, (dropClaims_flags _ w).1 _ (by simp), State.flagSet, noted, raised]
      exact raiseFlag_flagSet_self ..
    · rw [dropped, (dropClaims_flags _ w).2, noted, raised]
      exact raiseFlag_detailOf .loanLapse .loanLapse i.val _
    · have node (n : NodePort) : u.node n = s.node n := by rw [eq]; rfl
      refine MoreFrames.first ?_ ((raised ▸ raiseFlag_moreFrames ..).trans (more _))
      rw [loanNotice_out, State.loanDetail, loan, if_pos rfl, node]
      exact if_pos ⟨rfl, up⟩

/-! ## REVOKE LOAN (R41) -/

/-- Settles O23, by the state of the entry. -/
theorem revokeFreesTheEntry : Obligations.RevokeFreesTheEntry := by
  intro h index s managed
  have produced {i : LoanIdx} (isIndex : index.toNat = i.val) {t : State} {status : ReplyStatus}
      (served : revoke i (heard h s) = (t, status)) :
      exec (.revokeLoan h index) s = .next (produceNode h.port (.manageReply h.tag 4 status 0 0 []) t) := by
    refine congrArg Host.Outcome.next ((manageOp_eq_produced managed 4 _).trans ?_)
    have range : index.toNat < 512 := isIndex ▸ i.isLt
    have entry : (⟨index.toNat, range⟩ : LoanIdx) = i := Fin.ext isIndex
    simp only [serveRevoke, range, dite_true, entry, served]
  have heardLoan (i : LoanIdx) : (heard h s).loanAt i = s.loanAt i := by rw [State.loanAt, heard_eq]; rfl
  have up := heard_up managed
  refine ⟨fun above => ?_, fun i isIndex => ⟨fun free => ?_, fun ended => ?_, fun inForce => ?_⟩⟩
  · refine congrArg Host.Outcome.next (manageOp_eq_replied (t := heard h s) (status := .badIndex) managed ?_ up 4)
    rw [serveRevoke, dif_neg (by omega)]
  · rw [produced isIndex (revoke_of_free (by rw [heardLoan]; exact free)), produceNode_eq_replied up]
  · rw [produced isIndex (revoke_of_ended (by rw [heardLoan]; exact ended)), heardLoan]
    exact congrArg Host.Outcome.next (produceNode_eq_replied
      (s := (heard h s).setLoan i { s.loanAt i with state := .free, owed := false }) up _)
  · have revoked := revoke_of_inForce (s := heard h s) (i := i) (by rw [heardLoan]; exact inForce)
    rw [heardLoan] at revoked
    obtain ⟨u, eq⟩ : ∃ u, u = (heard h s).setLoan i { s.loanAt i with state := .free, owed := false } := ⟨_, rfl⟩
    have loan (j : LoanIdx) :
        u.loanAt j = if j = i then { s.loanAt i with state := .free, owed := false } else s.loanAt j := by
      rw [eq, State.setLoan_loanAt_eq, heardLoan]
    have beside_u : Beside s u := by
      rw [eq]
      exact ((heard_onLinks h s).beside (by rw [heard_eq])).trans (setLoan_beside ..)
    obtain ⟨r, noticed⟩ : ∃ r, r = loanNotice i .revoked u := ⟨_, rfl⟩
    have beside : Beside s r := beside_u.trans (noticed ▸ loanNotice_beside ..)
    rw [← eq, ← noticed] at revoked
    have taken := produced isIndex revoked
    have settled := reply_settled h.port (f := .manageReply h.tag 4 .ok 0 0 []) rfl
      (endLoanWork (s.loanAt i).node (s.loanAt i).volume .loanRevoked r)
    have ended := endLoanWork_ended (n := (s.loanAt i).node) (v := (s.loanAt i).volume) (status := .loanRevoked) beside
      settled
    have more := endLoanWork_moreFrames (s.loanAt i).node (s.loanAt i).volume .loanRevoked r (s.loanAt i).node
    have kept : (produceNode h.port (.manageReply h.tag 4 .ok 0 0 [])
        (endLoanWork (s.loanAt i).node (s.loanAt i).volume .loanRevoked r)).loan = u.loan := by
      rw [settled.links.loan, (endLoanWork_frame ..).1, noticed, (loanNotice_frame ..).2.2.1]
    have more := more.trans (settled.links.nodes (s.loanAt i).node).more
    generalize produceNode h.port (.manageReply h.tag 4 .ok 0 0 [])
      (endLoanWork (s.loanAt i).node (s.loanAt i).volume .loanRevoked r) = t at taken ended more kept
    refine ⟨t, taken, ?_, fun j other => ?_, fun up => ?_, ended⟩
    · rw [LoanEnded.loanAt_of kept, loan, if_pos rfl]
    · rw [LoanEnded.loanAt_of kept, loan, if_neg other]
    · have out (n : NodePort) : (u.node n).out = (s.node n).out := by
        rw [eq, State.setLoan_node, heard_node]
      refine MoreFrames.first (x := r.node (s.loanAt i).node) ?_ more
      rw [noticed, loanNotice_out, State.loanDetail, loan, if_pos rfl, out]
      exact if_pos ⟨rfl, (beside_u.nodes (s.loanAt i).node).more.state.trans up⟩

end

end Sys2Proof.Machine
end

section
/-! PROOFS. The departure of a node (R53, R54, R56, R185). -/

namespace Sys2Proof.Machine

/-! ## Node links that are DOWN get no frame (R59) -/

/-- The node link, if it is DOWN, stays as it is, but for the mark that a frame was produced. -/
def SilentWhenDown (r r' : NodeLink) : Prop := r.state = .down → r' = { r with produced := r'.produced }

section
variable {s t u : State} {n : NodePort}

theorem SilentWhenDown.refl (r : NodeLink) : SilentWhenDown r r := fun _ => rfl

theorem SilentWhenDown.trans {r x y : NodeLink} (first : SilentWhenDown r x) (second : SilentWhenDown x y) :
    SilentWhenDown r y := fun down => by
  have same := first down
  have down' : x.state = .down := by rw [same]; exact down
  rw [second down', same]

theorem raiseFlag_silent (f : Flag) (x : Nat) (s : State) (n : NodePort) :
    SilentWhenDown (s.node n) ((raiseFlag f x s).node n) := by
  intro down
  rw [raiseFlag_node]
  split
  · rw [State.noticed, if_neg]
    rintro ⟨up, -⟩
    rw [down] at up
    cases up
  · rfl

theorem handOff_silent (s : State) (n : NodePort) : SilentWhenDown (s.node n) ((handOff s).node n) := by
  unfold handOff
  split
  · exact .refl _
  · next c rest _ =>
    have silent := raiseFlag_silent .lockout 0
      { s with lock := { s.lock with
          pendingClaims := rest, active := some { claim := c, timer := s.settings.lockoutTime } } } n
    exact silent

theorem dropClaims_silent (p : Claim → Bool) (s : State) (n : NodePort) :
    SilentWhenDown (s.node n) ((dropClaims p s).node n) := by
  obtain ⟨-, eq⟩ | ⟨a, -, -, eq⟩ := dropClaims_cases p s <;> rw [eq]
  · exact .refl _
  · exact handOff_silent
      { s with lock := { s.lock with pendingClaims := s.lock.pendingClaims.filter fun c => !p c } } n

theorem produceNode_silent (m : NodePort) (f : NodeFrame) (s : State) (n : NodePort) :
    SilentWhenDown (s.node n) ((produceNode m f s).node n) := by
  intro down
  rw [produceNode_node]
  split
  · next same =>
    subst same
    rw [if_neg (by simp [down]), List.append_nil]
  · rfl

theorem dropClaims_settings (p : Claim → Bool) (s : State) : (dropClaims p s).settings = s.settings := by
  obtain ⟨-, eq⟩ | ⟨a, -, -, eq⟩ := dropClaims_cases p s <;> rw [eq]
  · rfl
  · unfold handOff
    split
    · rfl
    · exact raiseFlag_settings ..

/-! ## The departure (R56) -/

theorem State.mem_slotsInUse {k : SlotIdx} : k ∈ s.slotsInUse n ↔ true = true ∧ (s.slot n k).state ≠ .free := by
  rw [State.slotsInUse, mem_tableFilter, bne_iff_ne]
  exact (and_iff_right rfl).symm

/-- The node link and the loans of a node that departs. -/
def gone (n : NodePort) (s : State) : State := recallLoans n (nodeLinkDown n s)

theorem gone_node (n : NodePort) (s : State) (m : NodePort) :
    (gone n s).node m =
      if m = n then
        { s.node n with
          state := .down, silence := 0, out := [], owed := false,
          finishing := leftToFinish (Config.headBegun s.draws) (s.node n).out (s.node n).finishing }
      else s.node m :=
  State.setNode_node_eq ..

theorem gone_loanAt (n : NodePort) (s : State) (i : LoanIdx) :
    (gone n s).loanAt i =
      if (s.loanAt i).node = n ∧ (s.loanAt i).inForce = true then { s.loanAt i with state := .recalled, owed := false }
      else s.loanAt i := by
  have mapped : (gone n s).loanAt i = Loan.recalledFrom n (s.loanAt i) := tableMap_getElem ..
  rw [mapped, Loan.recalledFrom]
  simp only [Bool.and_eq_true, beq_iff_eq]

/-- The state s with the links of r. -/
def withLinks (r s : State) : State := { s with link := r.link }

/-- What a departure leaves of the links of the node that has gone DOWN and of others. -/
theorem departure_links (n : NodePort) (s : State) :
    (∀ m, Undone ((gone n s).node m) ((departure n s).node m)) ∧
      (departure n s).node n = { (gone n s).node n with produced := ((departure n s).node n).produced } ∧
      (departure n s).link.disks = s.link.disks := by
  obtain ⟨r, r_eq⟩ : ∃ r, r = gone n s := ⟨_, rfl⟩
  have link_u := foldl_keeps (fun s : State => s.link) (fun s k => endRequest n k none s)
    (fun s k => endRequest_none_link n k s) (r.slotsInUse n) r
  unfold departure
  dsimp only
  rw [show recallLoans n (nodeLinkDown n s) = r from r_eq.symm, ← r_eq]
  generalize (r.slotsInUse n).foldl (fun s k => endRequest n k none s) r = u at link_u
  obtain ⟨w, w_eq⟩ : ∃ w, w = (freeLocks (fun l => l.state == .held && l.holder == n)
      (owePass s (u.setDesk n { u.desk n with waitList := [], attemptsDue := 0 }))).setRetry n 0 := ⟨_, rfl⟩
  have link_w : w.link = r.link := by
    rw [w_eq, State.setRetry_link, (freeLocks_frame ..).1, owePass_link]
    exact link_u
  have node_w (m : NodePort) : w.node m = r.node m := by rw [State.node, link_w]; rfl
  rw [← w_eq]
  refine ⟨fun m => ?_, ?_, ?_⟩
  · rw [← node_w]
    exact (dropClaims_undone ..).trans (raiseFlag_undone ..)
  · have silent := SilentWhenDown.trans (dropClaims_silent (fun c => c.node == n) w n)
      (raiseFlag_silent (.nodeDown n) 0 _ n)
    rw [← node_w]
    exact silent (by rw [node_w, r_eq, gone_node, if_pos rfl])
  · rw [raiseFlag_link, dropClaims_diskLinks, link_w, r_eq]
    rfl

/-- A departure after events on links alone, and before such events that a DOWN link does not note. -/
theorem departure_departed {a : State} (before : OnLinks s a) (links : a.link.disks = s.link.disks)
    (fields : (a.node n).manager = (s.node n).manager ∧ (a.node n).ceiling = (s.node n).ceiling ∧
      (a.node n).damaged = (s.node n).damaged)
    (behind : Settled (departure n a) t) (silent : SilentWhenDown ((departure n a).node n) (t.node n)) :
    Departed n s t := by
  obtain ⟨undone, left, diskLinks⟩ := departure_links n a
  obtain ⟨r, r_eq⟩ : ∃ r, r = gone n a := ⟨_, rfl⟩
  rw [← r_eq] at undone left
  have admission_r : r.admission = s.admission := by rw [r_eq, ← before.admission]; rfl
  have stages_r : r.stages = s.stages := by rw [r_eq, ← before.stages]; rfl
  have lending_r : r.lending = s.lending := by rw [r_eq, ← before.lending]; rfl
  have swept_r : Swept (fun _ => false) (fun _ _ => false) (withLinks r s) r :=
    .of_same admission_r lending_r stages_r (by rw [r_eq]; exact before.dispatch) rfl fun _ => .refl _
  have inUse : r.slotsInUse n = s.slotsInUse n := by rw [State.slotsInUse, State.desk, admission_r]; rfl
  have once : (s.slotsInUse n).Nodup := by
    rw [State.slotsInUse, tableFilter_eq_filter]
    exact slotIdxs_nodup.filter _
  have swept := endRequests_swept swept_r n none (s.slotsInUse n)
  have lowered := endRequests_lowered (n := n) (status := none) swept_r lending_r once
  have others {m : NodePort} (other : m ≠ n) := endRequests_otherDesk other none (s.slotsInUse n) r
  have frame := endRequests_frame n none (s.slotsInUse n) r
  unfold departure at behind silent undone left diskLinks
  dsimp only at behind silent undone left diskLinks
  rw [show recallLoans n (nodeLinkDown n a) = r from r_eq.symm, inUse] at behind silent undone left diskLinks
  generalize (s.slotsInUse n).foldl (fun s k => endRequest n k none s) r = u
    at swept lowered others frame behind silent undone left diskLinks
  obtain ⟨v, v_eq⟩ : ∃ v, v = owePass a (u.setDesk n { u.desk n with waitList := [], attemptsDue := 0 }) := ⟨_, rfl⟩
  obtain ⟨w, w_eq⟩ : ∃ w, w = (freeLocks (fun l => l.state == .held && l.holder == n) v).setRetry n 0 := ⟨_, rfl⟩
  obtain ⟨x, x_eq⟩ : ∃ x, x = dropClaims (fun c => c.node == n) w := ⟨_, rfl⟩
  obtain ⟨y, y_eq⟩ : ∃ y, y = raiseFlag (.nodeDown n) 0 x := ⟨_, rfl⟩
  rw [← v_eq, ← w_eq, ← x_eq, ← y_eq] at behind silent undone left diskLinks
  have kept_v : Keeping u v := by
    rw [v_eq]
    exact (setDesk_keeping (s := u) (n := n) (x := { u.desk n with waitList := [], attemptsDue := 0 }) rfl).trans (owePass_keeping ..)
  have kept_w : Keeping v w := by
    rw [w_eq]
    exact .of_eq (by simp) (by simp) (by simp) (by simp)
  have kept_y : Keeping w y := by
    rw [y_eq, x_eq]
    exact .of_eq (by simp) (by simp) (by simp) (by simp)
  have kept : Keeping u t := kept_v.trans (kept_w.trans (kept_y.trans (.of_eq behind.links.admission
    behind.links.stages behind.links.dispatch behind.links.lending)))
  have admission_t : t.admission = v.admission := by
    rw [behind.links.admission, y_eq, x_eq, w_eq]
    simp
  have desk_t (m : NodePort) :
      t.desk m = if m = n then { u.desk n with waitList := [], attemptsDue := 0 } else u.desk m := by
    rw [State.desk, admission_t, ← State.desk, v_eq, owePass_desk]
    exact State.setDesk_desk_eq ..
  have stages_t : t.stages = v.stages := by
    rw [behind.links.stages, y_eq, x_eq, w_eq]
    simp
  have loan_t : t.loan = r.loan := by
    rw [behind.links.loan, y_eq, x_eq, w_eq, v_eq]
    simp [frame.1]
  have more (m : NodePort) : Undone (r.node m) (t.node m) := (undone m).trans (behind.links.nodes m)
  have down_r : (r.node n).state = .down := by rw [r_eq, gone_node, if_pos rfl]
  have node_t : t.node n = { r.node n with produced := (t.node n).produced } := by
    have here := silent (by rw [left]; exact down_r)
    rw [here, left]
  have record : r.node n = { a.node n with
      state := .down, silence := 0, out := [], owed := false,
      finishing := leftToFinish (Config.headBegun a.draws) (a.node n).out (a.node n).finishing } := by
    rw [r_eq, gone_node, if_pos rfl]
  have loan_a (i : LoanIdx) : a.loanAt i = s.loanAt i := by rw [State.loanAt, before.loan]; rfl
  have lock_v : v.lock = s.lock := by
    rw [v_eq, show (owePass a (u.setDesk n { u.desk n with waitList := [], attemptsDue := 0 })).lock = u.lock by simp,
      frame.2.2.1, r_eq, ← before.lock]
    rfl
  have lock_t : t.lock = x.lock := by
    rw [behind.links.lock, y_eq]
    simp
  have lock_x := dropClaims_lock (fun c => c.node == n) w
  have claims := dropClaims_claims (fun c => c.node == n) w
  rw [← x_eq] at lock_x claims
  have named (k : SlotIdx) : requestsAt n (s.slotsInUse n) n k = true ↔ (s.slot n k).state ≠ .free := by
    rw [requestsAt_eq_true, State.mem_slotsInUse]
    simp
  have work : Withdrawn n (fun _ => true) (withLinks r s) t :=
    withdrawn_of_swept (fun k => State.mem_slotsInUse (s := s)) swept lowered kept
  refine
    { down := by rw [node_t]; exact down_r
      silence := by rw [node_t, record]
      out := by rw [node_t, record]
      kept := by rw [node_t, record]; exact fields
      loans := fun i => ?_
      slots := fun k => ?_
      work := ⟨work.slots, work.stages, work.order, work.disks, work.lanes, work.accounts, work.inFlight⟩
      waitList := by rw [desk_t, if_pos rfl]
      pass := ?_
      otherDesks := fun m other => ?_
      locks := fun k => ?_
      claims := fun mem => ?_
      retry := fun m => ?_
      flag := ?_
      meter := ?_
      map := ?_
      settings := ?_
      otherNodes := fun m other => ?_
      diskLinks := ?_
      disks := work.disks }
  · rw [LoanEnded.loanAt_of loan_t, r_eq, gone_loanAt, loan_a]
  · rw [kept.slots, swept.slots]
    by_cases free : (s.slot n k).state = .free
    · rw [if_neg fun h => (named k).mp h free]
      exact ⟨free, rfl⟩
    · rw [if_pos ((named k).mpr free)]
      exact ⟨rfl, rfl⟩
  · have passes : (u.setDesk n { u.desk n with waitList := [], attemptsDue := 0 }).stages.passesDue =
        a.stages.passesDue := by
      rw [State.setDesk_stages, swept.passes, before.stages]
      rfl
    exact (owePass_passOwed passes).transport (by rw [before.stages]) (by rw [before.stages])
      (stages_t.trans (by rw [v_eq]))
  · rw [desk_t, if_neg other, others other, State.desk, admission_r]
    rfl
  · have same : v.lockAt k = s.lockAt k := by rw [State.lockAt, lock_v]; rfl
    rw [State.lockAt, lock_t, lock_x]
    change w.lockAt k = _
    rw [w_eq, State.setRetry_lockAt, freeLocks_lockAt, same]
    simp only [Bool.and_eq_true, beq_iff_eq]
    rfl
  · rw [State.claimNodes, lock_t, List.mem_append] at mem
    rcases mem with mem | mem
    · simp only [Option.mem_toList, Option.map_eq_some_iff] at mem
      obtain ⟨c, active, node⟩ := mem
      have away := claims.1 c active
      simp [node] at away
    · obtain ⟨c, pending, node⟩ := List.mem_map.mp mem
      have away := claims.2 c pending
      simp [node] at away
  · rw [State.retryCount, lock_t, lock_x]
    change w.retryCount m = _
    rw [w_eq, State.setRetry_retryCount_eq]
    have same : (freeLocks (fun l => l.state == .held && l.holder == n) v).retryCount m = s.retryCount m := by
      rw [State.retryCount, freeLocks, lock_v]
      rfl
    rw [same]
  · rw [State.flagSet, behind.links.management, y_eq]
    exact raiseFlag_flagSet_self ..
  · rw [behind.links.meter, y_eq, x_eq, w_eq, v_eq]
    simp [frame.2.1, r_eq, gone, before.meter]
  · rw [kept.lending, swept.map]
    rfl
  · have settings : t.settings = x.settings := by
      rw [State.settings, behind.links.management, y_eq]
      exact raiseFlag_settings ..
    have management : w.management = s.management := by
      rw [w_eq, v_eq]
      simp [frame.2.2.2.1, r_eq, gone, before.management]
    rw [settings, x_eq, dropClaims_settings, State.settings, management]
    rfl
  · have node : r.node m = a.node m := by rw [r_eq, gone_node, if_neg other]
    refine (before.nodes m).more.trans ?_
    rw [← node]
    exact (more m).more
  · rw [behind.diskLinks, diskLinks, links]

theorem departure_departed_here (n : NodePort) (s : State) : Departed n s (departure n s) :=
  departure_departed (.refl s) rfl ⟨rfl, rfl, rfl⟩ (.refl _) (.refl _)

theorem takeSilence_node_limit (up : (s.node n).state = .up) (owed : (s.node n).owed = true)
    (limit : s.link.limitRead ≤ (s.node n).silence + 1) : takeSilence (.node n) s = departure n s := by
  rw [takeSilence, if_pos (show s.silenceOwed (.node n) = true from owed), silenceStep]
  simp only [up]
  rw [if_pos limit]
  rfl

/-- Settles O19: each of the events is a departure, RESTART PORT after its frame and before its reply. -/
theorem departuresEndTheNodesWork : Obligations.DeparturesEndTheNodesWork := by
  intro n s
  refine ⟨fun down => ?_, fun up => ⟨_, ?_, departure_departed_here n s⟩, fun up owed limit =>
    ⟨_, congrArg Host.Outcome.next (takeSilence_node_limit up owed limit), departure_departed_here n s⟩,
    fun h p managed port => ?_⟩
  · exact (by simp only [execLinkLossIndication, down] : execLinkLossIndication (.node n) s = .next s)
  · exact (by simp only [execLinkLossIndication, up]; rfl :
      execLinkLossIndication (.node n) s = .next (departure n s))
  · have served : serveRestartNode p (heard h s) = (departure n (heard h s), .ok) := by
      have range : p.toNat < 32 := port ▸ n.isLt
      have here : (⟨p.toNat, range⟩ : NodePort) = n := Fin.ext port
      rw [serveRestartNode, dif_pos range, here]
    have taken : exec (.restartPortNode h p) s =
        .next (produceNode h.port (.manageReply h.tag 8 .ok 0 0 []) (departure n (heard h s))) := by
      refine congrArg Host.Outcome.next ((manageOp_eq_produced managed 8 _).trans ?_)
      rw [served]
    refine ⟨_, taken, departure_departed (heard_onLinks h s) (by rw [heard_eq]) ?_ (reply_settled _ rfl _)
      (produceNode_silent _ _ _ _)⟩
    rw [heard_node]
    exact ⟨rfl, rfl, rfl⟩

end

end Sys2Proof.Machine
end

section
/-! PROOFS. The lending map through restarts (R10). -/

namespace Sys2Proof.Machine

section
variable {s : State}

theorem takeManage_lending (h : ManageHeader) (s : State) : (takeManage h s).lending = s.lending := by
  unfold takeManage
  split
  · rfl
  · simp

/-- A MANAGE frame leaves of the map what its operation leaves of it. -/
theorem manageOp_map {h : ManageHeader} {operation : Byte} {serve : State → State × ReplyStatus}
    (served : ∀ u, (serve u).1.lending.map = u.lending.map) (s : State) :
    (manageOp h operation serve s).lending.map = s.lending.map := by
  have reply (x : Served) : (replyTo h operation 0 x).lending = x.state.lending := (produceNode_frame ..).2.1
  unfold manageOp manage
  dsimp only
  split
  · rw [reply, served, takeManage_lending]
  · rw [reply, takeManage_lending]

theorem departure_map (n : NodePort) (s : State) : (departure n s).lending.map = s.lending.map :=
  (departure_departed_here n s).map

theorem diskLoss_map (d : DiskPort) (s : State) : (diskLoss d s).lending.map = s.lending.map :=
  (diskLoss_lost (.refl s) (fun _ _ => rfl) (.refl _) rfl).1.map

theorem restartDiskPort_map (d : DiskPort) (s : State) : (restartDiskPort d s).lending.map = s.lending.map := by
  unfold restartDiskPort
  split
  · exact diskLoss_map d (diskLinkDown d [.drop] s)
  · exact diskLoss_map d s

theorem restartPart_map (s : State) : (restartPart s).lending.map = s.lending.map := by
  rw [restartPart_eq]
  rfl

/-- Settles O12: restarts touch no map entry, and no command but two replaces an unrecoverable one. -/
theorem restartsKeepTheMap : Obligations.RestartsKeepTheMap := by
  refine ⟨fun h s => ⟨_, rfl, manageOp_map (serve := fun s => (restartPart s, .ok)) restartPart_map s⟩,
    fun h p s => ⟨⟨_, rfl, manageOp_map (serve := serveRestartNode p) (fun u => ?_) s⟩,
      ⟨_, rfl, manageOp_map (serve := serveRestartDisk p) (fun u => ?_) s⟩⟩, fun c s i ordinary lost => ?_⟩
  · unfold serveRestartNode
    split
    · exact departure_map ..
    · rfl
  · unfold serveRestartDisk
    split
    · exact restartDiskPort_map ..
    · rfl
  · obtain ⟨t, taken, keeps⟩ := exec_keeps c s
    exact ⟨t, taken, keeps.lost ordinary i lost⟩

end

end Sys2Proof.Machine
end

section
/-! PROOFS. Completions (R79, R80, R99, R120). -/

namespace Sys2Proof.Machine

/-! ## Tallies (R99) -/

theorem wrapped_eq {a c : Nat} (below : a < 2 ^ 48) (small : c ≤ 8) :
    (a + c) % 2 ^ 48 = if a + c ≤ 2 ^ 48 - 1 then a + c else a + c - 2 ^ 48 := by
  split <;> omega

theorem capped_eq {a c : Nat} : min (a + c) (2 ^ 32 - 1) = if a + c ≤ 2 ^ 32 - 1 then a + c else 2 ^ 32 - 1 := by
  split <;> omega

/-! ## One piece (R79, R80) -/

/-- The slot after one of its pieces has completed: ended by the last piece. -/
def Slot.completed (sl : Slot) (c : Nat) : Slot := if 1 < sl.outstanding then sl.pieceDone c else sl.ended

section
variable {s t : State} {n : NodePort} {k : SlotIdx} {c : Nat}

/-- The counts of a completed piece, before its request may end. -/
def pieceCounted (n : NodePort) (k : SlotIdx) (c : Nat) (s : State) : State :=
  lowerInFlight (s.slot n k).volume 1
    ((s.setSlot n k ((s.slot n k).pieceDone c)).setTally n ((s.tallyOf n).add (s.slot n k).kind.isWrite c))

theorem completePiece_of_more (more : 1 < (s.slot n k).outstanding) : completePiece n k c s = pieceCounted n k c s := by
  unfold completePiece
  dsimp only
  rw [if_neg (by rw [Slot.pieceDone]; simp only; omega)]
  rfl

theorem completePiece_of_last (last : (s.slot n k).outstanding ≤ 1) :
    completePiece n k c s =
      produceDone n (s.slot n k).tag .ok ((s.slot n k).delivered + c) (freeSlot n k (pieceCounted n k c s)) := by
  unfold completePiece
  dsimp only
  rw [if_pos (by rw [Slot.pieceDone]; simp only; omega)]
  rfl

theorem pieceCounted_slot (n : NodePort) (k : SlotIdx) (c : Nat) (s : State) (m : NodePort) (l : SlotIdx) :
    (pieceCounted n k c s).slot m l = if m = n ∧ l = k then (s.slot n k).pieceDone c else s.slot m l :=
  State.setSlot_slot_eq ..

theorem completePiece_slot (n : NodePort) (k : SlotIdx) (c : Nat) (s : State) (m : NodePort) (l : SlotIdx) :
    (completePiece n k c s).slot m l = if m = n ∧ l = k then (s.slot n k).completed c else s.slot m l := by
  by_cases more : 1 < (s.slot n k).outstanding
  · rw [completePiece_of_more more, pieceCounted_slot, Slot.completed, if_pos more]
  · rw [completePiece_of_last (by omega), State.slot, State.desk, (produceDone_frame ..).1]
    change (freeSlot n k (pieceCounted n k c s)).slot m l = _
    rw [freeSlot_slot_eq, pieceCounted_slot n k c s n k, pieceCounted_slot n k c s m l,
      if_pos (show n = n ∧ k = k from ⟨rfl, rfl⟩), Slot.completed, if_neg more]
    split <;> rfl

theorem completePiece_meter (n : NodePort) (k : SlotIdx) (c : Nat) (s : State) :
    (completePiece n k c s).meter = (s.setTally n ((s.tallyOf n).add (s.slot n k).kind.isWrite c)).meter := by
  by_cases more : 1 < (s.slot n k).outstanding
  · rw [completePiece_of_more more]
    rfl
  · rw [completePiece_of_last (by omega), (produceDone_frame ..).2.2.2.1, (freeSlot_frame ..).2.2.2.1]
    rfl

theorem completePiece_lending (n : NodePort) (k : SlotIdx) (c : Nat) (s : State) :
    (completePiece n k c s).lending = (lowerInFlight (s.slot n k).volume 1 s).lending := by
  by_cases more : 1 < (s.slot n k).outstanding
  · rw [completePiece_of_more more]
    rfl
  · rw [completePiece_of_last (by omega), (produceDone_frame ..).2.1, (freeSlot_frame ..).2.1]
    rfl

theorem completePiece_tallyOf (n : NodePort) (k : SlotIdx) (c : Nat) (s : State) (m : NodePort) :
    (completePiece n k c s).tallyOf m =
      if m = n then (s.tallyOf n).add (s.slot n k).kind.isWrite c else s.tallyOf m := by
  rw [State.tallyOf, completePiece_meter]
  exact State.setTally_tallyOf_eq ..

theorem completePiece_volume (n : NodePort) (k : SlotIdx) (c : Nat) (s : State) (v : Volume) :
    (completePiece n k c s).volume v =
      { s.volume v with
        inFlight := (s.volume v).inFlight - (if v = (s.slot n k).volume then 1 else 0) } := by
  rw [State.volume, completePiece_lending]
  exact lowerInFlight_volume ..

theorem completePiece_out (n : NodePort) (k : SlotIdx) (c : Nat) (s : State) {m : NodePort}
    (up : (s.node m).state = .up) :
    ((completePiece n k c s).node m).out = (s.node m).out ++
      (if m = n ∧ (s.slot n k).outstanding ≤ 1 then [.done (s.slot n k).tag .ok ((s.slot n k).delivered + c)] else []) := by
  by_cases more : 1 < (s.slot n k).outstanding
  · rw [completePiece_of_more more, if_neg (by omega), List.append_nil]
    rfl
  · have node (m : NodePort) : (freeSlot n k (pieceCounted n k c s)).node m = s.node m := rfl
    rw [completePiece_of_last (by omega), produceDone, produceNode_node, node, node]
    by_cases same : m = n
    · subst same
      rw [if_pos rfl, if_pos up, if_pos ⟨rfl, by omega⟩]
    · rw [if_neg same, if_neg fun h => same h.1, List.append_nil]

theorem completePiece_moreFrames (n : NodePort) (k : SlotIdx) (c : Nat) (s : State) (m : NodePort) :
    MoreFrames (s.node m) ((completePiece n k c s).node m) := by
  by_cases more : 1 < (s.slot n k).outstanding
  · rw [completePiece_of_more more]
    exact .refl _
  · rw [completePiece_of_last (by omega)]
    exact produceNode_moreFrames n _ (freeSlot n k (pieceCounted n k c s)) m

theorem completePiece_otherDesk {m : NodePort} (other : m ≠ n) : (completePiece n k c s).desk m = s.desk m := by
  have counted : (pieceCounted n k c s).desk m = s.desk m := State.setDesk_desk_ne _ _ _ _ other
  by_cases more : 1 < (s.slot n k).outstanding
  · rw [completePiece_of_more more, counted]
  · rw [completePiece_of_last (by omega), State.desk, (produceDone_frame ..).1]
    change (freeSlot n k (pieceCounted n k c s)).desk m = _
    rw [freeSlot_desk, if_neg other, counted]

/-! ## The pieces of a stage (R120) -/

/-- The pieces of the waiters have completed, whose slots were as sl says. -/
structure PiecesCompleted (sl : NodePort → SlotIdx → Slot) (ws : List Waiter) (s t : State) : Prop where
  slots : ∀ w ∈ ws, t.slot w.node w.slot = (sl w.node w.slot).completed w.count
  beside : ∀ n k, (∀ w ∈ ws, ¬(w.node = n ∧ w.slot = k)) → t.slot n k = s.slot n k
  tallies : ∀ n, t.tallyOf n = (ws.filter (·.node == n)).foldl
    (fun x w => x.add (sl w.node w.slot).kind.isWrite w.count) (s.tallyOf n)
  volumes : ∀ v, t.volume v =
    { s.volume v with
      inFlight := (s.volume v).inFlight - (ws.filter fun w => (sl w.node w.slot).volume == v).length }
  frames : ∀ n, (s.node n).state = .up → (t.node n).out = (s.node n).out ++
    (ws.filter fun w => w.node == n && decide ((sl w.node w.slot).outstanding ≤ 1)).map fun w =>
      .done (sl w.node w.slot).tag .ok ((sl w.node w.slot).delivered + w.count)

theorem completePieces_completed {sl : NodePort → SlotIdx → Slot} {ws : List Waiter}
    (once : ws.Pairwise fun w x => ¬(w.node = x.node ∧ w.slot = x.slot))
    (known : ∀ w ∈ ws, s.slot w.node w.slot = sl w.node w.slot) :
    PiecesCompleted sl ws s (ws.foldl (fun s w => completePiece w.node w.slot w.count s) s) := by
  induction ws generalizing s with
  | nil =>
    refine ⟨fun w mem => absurd mem List.not_mem_nil, fun _ _ _ => rfl, fun _ => rfl, fun v => ?_, fun n _ => ?_⟩
    · rfl
    · exact (List.append_nil _).symm
  | cons w ws ih =>
    obtain ⟨apart, once⟩ := List.pairwise_cons.mp once
    have known_w := known w List.mem_cons_self
    have slot_w (x : Waiter) (mem : x ∈ ws) :
        (completePiece w.node w.slot w.count s).slot x.node x.slot = s.slot x.node x.slot := by
      rw [completePiece_slot, if_neg fun h => apart x mem ⟨h.1.symm, h.2.symm⟩]
    have rest := ih (s := completePiece w.node w.slot w.count s) once fun x mem =>
      (slot_w x mem).trans (known x (List.mem_cons_of_mem w mem))
    rw [List.foldl_cons]
    generalize ws.foldl (fun s w => completePiece w.node w.slot w.count s) (completePiece w.node w.slot w.count s) = t
      at rest
    refine ⟨fun x mem => ?_, fun n k beside => ?_, fun n => ?_, fun v => ?_, fun n up => ?_⟩
    · rcases List.mem_cons.mp mem with rfl | mem
      · rw [rest.beside x.node x.slot fun y mem h => apart y mem ⟨h.1.symm, h.2.symm⟩, completePiece_slot,
          if_pos ⟨rfl, rfl⟩, known_w]
      · exact rest.slots x mem
    · rw [rest.beside n k fun x mem => beside x (List.mem_cons_of_mem w mem), completePiece_slot,
        if_neg fun h => beside w List.mem_cons_self ⟨h.1.symm, h.2.symm⟩]
    · rw [rest.tallies, completePiece_tallyOf, List.filter_cons, known_w]
      by_cases same : w.node = n
      · subst same
        rw [if_pos rfl, if_pos (beq_self_eq_true _), List.foldl_cons]
      · rw [if_neg (Ne.symm same), if_neg (by simpa using same)]
    · rw [rest.volumes, completePiece_volume, List.filter_cons, known_w]
      by_cases same : (sl w.node w.slot).volume = v
      · rw [if_pos same.symm, if_pos (by simpa using same), List.length_cons]
        have fallen (a l : Nat) : a - 1 - l = a - (l + 1) := by omega
        exact congrArg (fun x => { s.volume v with inFlight := x }) (fallen _ _)
      · rw [if_neg (Ne.symm same), if_neg (by simpa using same)]
        rfl
    · have up' := (completePiece_moreFrames w.node w.slot w.count s n).state.trans up
      rw [rest.frames n up', completePiece_out w.node w.slot w.count s up, known_w, List.append_assoc, List.filter_cons]
      by_cases last : n = w.node ∧ (sl w.node w.slot).outstanding ≤ 1
      · rw [if_pos last, if_pos (by simp [last.1, last.2])]
        rfl
      · rw [if_neg last, if_neg (by
          simp only [Bool.and_eq_true, beq_iff_eq, decide_eq_true_eq]
          exact fun h => last ⟨h.1.symm, h.2⟩)]
        rfl

theorem completePiece_map (n : NodePort) (k : SlotIdx) (c : Nat) (s : State) :
    (completePiece n k c s).lending.map = s.lending.map := by
  rw [completePiece_lending]
  rfl

theorem completePiece_meters (n : NodePort) (k : SlotIdx) (c : Nat) (s : State) :
    (completePiece n k c s).meter.meters = s.meter.meters := by
  rw [completePiece_meter]
  rfl

/-- What a stage that completes leaves, its freed stage apart. -/
theorem completeStage_kept (i : StageIdx) (s : State) :
    (completeStage i s).stages = (freeStage i s).stages ∧ (completeStage i s).dispatch = (freeStage i s).dispatch ∧
      (completeStage i s).lending.map = s.lending.map ∧ (completeStage i s).meter.meters = s.meter.meters ∧
      ∀ n, MoreFrames (s.node n) ((completeStage i s).node n) := by
  have frame := completePieces_frame (s.stage i).pieces (freeStage i s)
  refine ⟨frame.2.1, frame.2.2.1, ?_, ?_, fun n => ?_⟩
  · exact foldl_keeps (fun s : State => s.lending.map) (fun s (e : Ended) => completePiece e.node e.slot e.count s)
      (fun s e => completePiece_map ..) (s.stage i).pieces (freeStage i s)
  · exact foldl_keeps (fun s : State => s.meter.meters) (fun s (e : Ended) => completePiece e.node e.slot e.count s)
      (fun s e => completePiece_meters ..) (s.stage i).pieces (freeStage i s)
  · exact foldl_frame (R := fun s t : State => MoreFrames (s.node n) (t.node n)) (fun _ => .refl _)
      (fun _ _ _ => MoreFrames.trans) (f := fun s (e : Ended) => completePiece e.node e.slot e.count s)
      (fun s e => completePiece_moreFrames e.node e.slot e.count s n) (s.stage i).pieces (freeStage i s)

theorem completeStage_single {i : StageIdx} {e : Ended} (pieces : (s.stage i).pieces = [e]) :
    completeStage i s = completePiece e.node e.slot e.count (freeStage i s) := by
  rw [completeStage, pieces]
  rfl

theorem completeStage_waiters {i : StageIdx} (fetch : (s.stage i).kind = .fetch) :
    completeStage i s =
      (s.stage i).waiters.foldl (fun s w => completePiece w.node w.slot w.count s) (freeStage i s) := by
  rw [completeStage, Stage.pieces, fetch]
  exact List.foldl_map ..

/-- A piece that completes, by itself. -/
theorem completePiece_sole (up : (s.node n).state = .up) :
    (∀ m, m ≠ n → (completePiece n k c s).tallyOf m = s.tallyOf m ∧ (completePiece n k c s).desk m = s.desk m) ∧
      (∀ l, l ≠ k → (completePiece n k c s).slot n l = s.slot n l) ∧
      (completePiece n k c s).tallyOf n = (s.tallyOf n).add (s.slot n k).kind.isWrite c ∧
      ((completePiece n k c s).volume (s.slot n k).volume).inFlight = (s.volume (s.slot n k).volume).inFlight - 1 ∧
      (1 < (s.slot n k).outstanding →
        (completePiece n k c s).slot n k = (s.slot n k).pieceDone c ∧
          (completePiece n k c s).link.nodes = s.link.nodes) ∧
      ((s.slot n k).outstanding = 1 →
        ((completePiece n k c s).slot n k).state = .free ∧ ((completePiece n k c s).slot n k).held = 0 ∧
          ((completePiece n k c s).node n).out = (s.node n).out ++
            [.done (s.slot n k).tag .ok ((s.slot n k).delivered + c)]) := by
  have slot : (completePiece n k c s).slot n k = (s.slot n k).completed c := by
    rw [completePiece_slot, if_pos ⟨rfl, rfl⟩]
  refine ⟨fun m other => ⟨?_, completePiece_otherDesk other⟩, fun l other => ?_, ?_, ?_, fun left => ⟨?_, ?_⟩,
    fun last => ⟨?_, ?_, ?_⟩⟩
  · rw [completePiece_tallyOf, if_neg other]
  · rw [completePiece_slot, if_neg fun h => other h.2]
  · rw [completePiece_tallyOf, if_pos rfl]
  · rw [completePiece_volume, if_pos rfl]
  · rw [slot, Slot.completed, if_pos left]
  · rw [completePiece_of_more left]
    rfl
  · rw [slot, Slot.completed, if_neg (by omega)]
    rfl
  · rw [slot, Slot.completed, if_neg (by omega)]
    rfl
  · rw [completePiece_out n k c s up, if_pos ⟨rfl, by omega⟩]

/-- Settles O44: the stage is freed, then its pieces complete in turn; the counters by their arithmetic. -/
theorem completionsCountTheirPieces : Obligations.CompletionsCountTheirPieces := by
  refine ⟨fun d tag i s present matched complete => ?_, fun x kind c readBelow writtenBelow _ _ small => ?_⟩
  · obtain ⟨-, -, -, atDisk, -⟩ := matchReply_eq_some.mp matched
    obtain ⟨h, h_eq⟩ : ∃ h, h = heardFrom d s := ⟨_, rfl⟩
    have stage_h (j : StageIdx) : h.stage j = s.stage j := by rw [h_eq]; rfl
    have used : (h.stage i).state ≠ .free := by
      rw [stage_h]
      exact (Stage.atDisk_iff.mp atDisk).1
    have completable : (h.stage i).completable = true := by
      rw [stage_h, Stage.completable]
      rcases complete with ⟨kind, state, arrived⟩ | ⟨kind, state⟩ <;> rw [kind] <;> simp_all
    have taken : exec (.diskDoneOk d tag) s = .next (owePass h (completeStage i h)) := by
      refine congrArg Host.Outcome.next ((onReply_matched (act := doneOkFor) present matched).trans ?_)
      rw [← h_eq, doneOkFor, if_pos completable]
    obtain ⟨stages, dispatch, map, meters, more⟩ := completeStage_kept i h
    obtain ⟨loan, lock, management, -, -⟩ := completeStage_frame i h
    have single {e : Ended} (pieces : (s.stage i).pieces = [e]) :=
      completeStage_single (s := h) (i := i) (e := e) (by rw [stage_h]; exact pieces)
    have waiters (fetch : (s.stage i).kind = .fetch) :=
      completeStage_waiters (s := h) (i := i) (by rw [stage_h]; exact fetch)
    generalize completeStage i h = u at taken stages dispatch map meters more loan lock management single waiters
    have freed : h.freeStages < u.freeStages := by
      rw [freeStages_of_table (t := u) (s := freeStage i h) (by rw [stages])]
      exact freeStage_freeStages used
    rw [owePass_of_lt freed] at taken
    have stage_u (j : StageIdx) : u.stage j = if j = i then (s.stage i).freed else s.stage j := by
      rw [State.stage, stages, ← State.stage, freeStage_stage, stage_h, stage_h]
    refine ⟨_, taken, ?_, ?_, fun j other => ?_, ?_, ?_, ?_, ?_, ?_, ?_, ?_, fun e => ?_, ?_, ?_, ?_⟩
    · change (u.stage i).state = _
      rw [stage_u, if_pos rfl]
      rfl
    · change (u.stage i).generation = _
      rw [stage_u, if_pos rfl]
      rfl
    · exact (stage_u j).trans (if_neg other)
    · change u.stages.order = _
      rw [stages, freeStage_order, h_eq]
      rfl
    · change u.stages.passesDue + 1 = _
      rw [stages, freeStage_passes, h_eq]
      rfl
    · exact management.trans (by rw [h_eq]; rfl)
    · exact loan.trans (by rw [h_eq]; rfl)
    · exact lock.trans (by rw [h_eq]; rfl)
    · exact map.trans (by rw [h_eq]; rfl)
    · exact meters.trans (by rw [h_eq]; rfl)
    · obtain ⟨lanes, eq⟩ := (freeStage_onLanes i h).disks e
      refine ⟨lanes, ?_⟩
      change u.disk e = _
      rw [State.disk, dispatch, ← State.disk, eq, h_eq]
      rfl
    · intro n
      have gained := more n
      rw [h_eq] at gained
      exact gained
    · intro n k c pieces up
      have sole := completePiece_sole (s := freeStage i h) (n := n) (k := k) (c := c) (by rw [h_eq]; exact up)
      rw [← single pieces, h_eq] at sole
      exact sole
    · intro fetch once
      have eq := waiters fetch
      have completed := completePieces_completed (s := freeStage i h) (sl := s.slot) (ws := (s.stage i).waiters) once
        fun w _ => by rw [h_eq]; rfl
      rw [stage_h] at eq
      rw [← eq] at completed
      refine ⟨fun w mem => ?_, fun n k beside => ?_, fun n => ?_, fun v => ?_, fun n up => ?_⟩
      · exact completed.slots w mem
      · exact (completed.beside n k beside).trans (by rw [h_eq]; rfl)
      · refine (completed.tallies n).trans ?_
        rw [h_eq]
        rfl
      · refine (completed.volumes v).trans ?_
        rw [h_eq]
        rfl
      · refine (completed.frames n (by rw [h_eq]; exact up)).trans ?_
        rw [h_eq]
        rfl
  · intro wrapped capped
    refine ⟨fun reads => ?_, fun writes => ?_⟩
    · have write : kind.isWrite = false := by rcases reads with rfl | rfl <;> rfl
      rw [write, Tally.add, if_neg Bool.false_ne_true, wrapped_eq readBelow small, capped_eq]
    · have write : kind.isWrite = true := by rcases writes with rfl | rfl <;> rfl
      rw [write, Tally.add, if_pos rfl, wrapped_eq writtenBelow small, capped_eq]

end

end Sys2Proof.Machine
end

section
/-! PROOFS. The port clock, and own steps that an expiry takes first (R52, R53, R62; log entry 2). -/

namespace Sys2Proof.Machine

/-! ## Commands one after the other -/

/-- Own steps that each answer run as a fold. -/
theorem runAll_map {α : Type} {g : α → Instr} {step : α → State → State}
    (answers : ∀ a s, exec (g a) s = .next (step a s)) (l : List α) (s : State) :
    runAll (l.map g) s = .next (l.foldl (fun s a => step a s) s) := by
  induction l generalizing s with
  | nil => rfl
  | cons a l ih =>
    rw [List.map_cons, runAll_cons (answers a s)]
    exact ih _

/-- Own steps in pairs, which together are one step, run as a fold. -/
theorem runAll_pairs {α : Type} {a b : α → Instr} {x y step : α → State → State}
    (first : ∀ i s, exec (a i) s = .next (x i s)) (second : ∀ i s, exec (b i) s = .next (y i s))
    (both : ∀ i s, y i (x i s) = step i s) (l : List α) (s : State) :
    runAll (l.flatMap fun i => [a i, b i]) s = .next (l.foldl (fun s i => step i s) s) := by
  induction l generalizing s with
  | nil => rfl
  | cons i l ih =>
    rw [List.flatMap_cons, List.cons_append, runAll_cons (first i s), List.cons_append, runAll_cons (second i _), both]
    exact ih _

/-! ## Steps that are taken if they are owed -/

section
variable {ι σ : Type} {f : σ → ι → σ} {owed : σ → ι → Bool}

/-- Steps that none is owed change nothing. -/
theorem foldl_of_idle (idle : ∀ s i, owed s i = false → f s i = s) {s : σ} (none : ∀ i, owed s i = false) (l : List ι) :
    l.foldl f s = s := by
  induction l with
  | nil => rfl
  | cons i l ih => rw [List.foldl_cons, idle s i (none i), ih]

/-- Of the listed steps none is owed when all were taken. -/
theorem foldl_not_owed (own : ∀ s i, owed (f s i) i = false)
    (stay : ∀ s i j, owed s j = false → owed (f s i) j = false) {l : List ι} {j : ι} {s : σ}
    (listed : j ∈ l ∨ owed s j = false) : owed (l.foldl f s) j = false := by
  induction l generalizing s with
  | nil => exact listed.resolve_left List.not_mem_nil
  | cons i l ih =>
    refine ih ?_
    rcases listed with mem | done
    · rcases List.mem_cons.mp mem with rfl | mem
      · exact .inr (own s j)
      · exact .inl mem
    · exact .inr (stay s i j done)

/-- It is enough to take the steps that are owed at the start. -/
theorem foldl_filter_owed (idle : ∀ s i, owed s i = false → f s i = s)
    (stay : ∀ s i j, owed s j = false → owed (f s i) j = false) {p : ι → Bool} (l : List ι) {s : σ}
    (others : ∀ j, p j = false → owed s j = false) : (l.filter p).foldl f s = l.foldl f s := by
  induction l generalizing s with
  | nil => rfl
  | cons i l ih =>
    cases named : p i with
    | true =>
      rw [List.filter_cons_of_pos named, List.foldl_cons, List.foldl_cons]
      exact ih fun j hj => stay s i j (others j hj)
    | false =>
      rw [List.filter_cons_of_neg (by simp [named]), List.foldl_cons, idle s i (others i named)]
      exact ih others

end

/-! ## Links that owe a step (R53) -/

section
variable {s : State}

theorem departure_owed (n : NodePort) (s : State) (m : NodePort) :
    ((departure n s).node m).owed = if m = n then false else (s.node m).owed := by
  rw [((departure_links n s).1 m).more.owed, gone_node]
  split <;> rfl

theorem departure_diskLink (n : NodePort) (s : State) (d : DiskPort) : (departure n s).diskLink d = s.diskLink d := by
  rw [State.diskLink, (departure_links n s).2.2]
  rfl

theorem lostDisk_owed (d : DiskPort) (s : State) (n : NodePort) :
    ((diskLoss d (diskLinkDown d [] s)).node n).owed = (s.node n).owed :=
  ((linkDown_disk_lost d s).1.nodes n).owed

theorem lostDisk_diskLink (d : DiskPort) (s : State) (e : DiskPort) :
    ((diskLoss d (diskLinkDown d [] s)).diskLink e).owed = if e = d then false else (s.diskLink e).owed := by
  split
  · next same =>
    subst same
    rw [(diskLoss_lost (d := e) (s := diskLinkDown e [] s) (.refl _) (fun _ _ => rfl) (.refl _) rfl).2, diskLinkDown]
    exact congrArg DiskLink.owed (State.setDiskLink_diskLink ..)
  · next other => rw [(linkDown_disk_lost d s).1.otherLinks e other]

theorem takeSilence_not_owed {l : Link} (idle : s.silenceOwed l = false) : takeSilence l s = s := by
  rw [takeSilence, idle]
  exact if_neg Bool.false_ne_true

theorem silenceStep_owed (l k : Link) (s : State) :
    (silenceStep l s).silenceOwed k = if k = l then false else s.silenceOwed k := by
  cases l with
  | node n =>
    have set (r : NodeLink) (done : r.owed = false) :
        (s.setNode n r).silenceOwed k = if k = .node n then false else s.silenceOwed k := by
      cases k with
      | node m =>
        simp only [State.silenceOwed, State.setNode_node_eq, Link.node.injEq]
        split
        · exact done
        · rfl
      | disk d => rfl
    unfold silenceStep
    dsimp only
    split
    · exact set _ rfl
    · split
      · cases k with
        | node m =>
          simp only [State.silenceOwed, Link.node.injEq]
          exact departure_owed n s m
        | disk d =>
          rw [if_neg (by simp)]
          exact congrArg DiskLink.owed (departure_diskLink n s d)
      · exact set _ rfl
  | disk d =>
    have set (r : DiskLink) (done : r.owed = false) :
        (s.setDiskLink d r).silenceOwed k = if k = .disk d then false else s.silenceOwed k := by
      cases k with
      | node m => rfl
      | disk e =>
        simp only [State.silenceOwed, State.setDiskLink_diskLink_eq, Link.disk.injEq]
        split
        · exact done
        · rfl
    unfold silenceStep
    dsimp only
    split
    · exact set _ rfl
    · split
      · cases k with
        | node m =>
          rw [if_neg (by simp)]
          exact lostDisk_owed d s m
        | disk e =>
          simp only [State.silenceOwed, Link.disk.injEq]
          exact lostDisk_diskLink d s e
      · exact set _ rfl

/-- A link's step is no longer owed once it was taken; others stay owed. -/
theorem takeSilence_owed (l k : Link) (s : State) :
    (takeSilence l s).silenceOwed k = if k = l then false else s.silenceOwed k := by
  cases owed : s.silenceOwed l with
  | true => rw [takeSilence, if_pos owed, silenceStep_owed]
  | false =>
    rw [takeSilence_not_owed owed]
    split
    · next same => rw [same, owed]
    · rfl

/-- The links, nodes first. -/
def portLinks : List Link := nodePorts.map .node ++ diskPorts.map .disk

theorem settlePort_eq (s : State) : settlePort s = portLinks.foldl (fun s l => takeSilence l s) s := by
  rw [portLinks, List.foldl_append, List.foldl_map, List.foldl_map]
  rfl

theorem settlePort_run (s : State) : runAll portSteps s = .next (settlePort s) := by
  have steps : portSteps = portLinks.map .silenceLimit := by
    rw [portLinks, List.map_append, List.map_map, List.map_map]
    rfl
  rw [steps, settlePort_eq]
  exact runAll_map (g := .silenceLimit) (step := takeSilence) (fun _ _ => rfl) portLinks s

theorem mem_portLinks (l : Link) : l ∈ portLinks := by
  cases l <;> simp [portLinks]

theorem settlePort_owed (s : State) (l : Link) : (settlePort s).silenceOwed l = false := by
  rw [settlePort_eq]
  refine foldl_not_owed (f := fun s l => takeSilence l s) (owed := State.silenceOwed) (fun s l => ?_)
    (fun s l k idle => ?_) (.inl (mem_portLinks l))
  · rw [takeSilence_owed, if_pos rfl]
  · rw [takeSilence_owed, idle, ite_self]

theorem settlePort_of_idle (idle : ∀ l, s.silenceOwed l = false) : settlePort s = s := by
  rw [settlePort_eq]
  exact foldl_of_idle (f := fun s l => takeSilence l s) (owed := State.silenceOwed)
    (fun _ _ none => takeSilence_not_owed none) idle portLinks

/-! ## What an expiry counts (R53, R62) -/

theorem NodeLink.atExpiry_eq (limit : Nat) {r : NodeLink} (idle : r.owed = false) :
    r.atExpiry limit =
      { r with
        silence := if r.state = .up ∧ r.silence + 1 < limit then r.silence + 1 else r.silence
        owed := decide (r.state = .up ∧ limit ≤ r.silence + 1)
        out := if r.produced then r.out else r.out ++ [.idle]
        produced := false } := by
  unfold NodeLink.atExpiry
  cases state : r.state with
  | down => simp [state, idle]
  | up =>
    by_cases late : limit ≤ r.silence + 1
    · simp [late, Nat.not_lt.mpr late]
    · simp [late, Nat.not_le.mp late, idle]

theorem DiskLink.atExpiry_eq (limit : Nat) {r : DiskLink} (idle : r.owed = false) :
    r.atExpiry limit =
      { r with
        silence := if r.state = .up ∧ r.silence + 1 < limit then r.silence + 1 else r.silence
        owed := decide (r.state = .up ∧ limit ≤ r.silence + 1)
        out := if r.produced then r.out else r.out ++ [.idle]
        produced := false } := by
  unfold DiskLink.atExpiry
  cases state : r.state with
  | down => simp [state, idle]
  | up =>
    by_cases late : limit ≤ r.silence + 1
    · simp [late, Nat.not_lt.mpr late]
    · simp [late, Nat.not_le.mp late, idle]

/-- Settles O18: with nothing owed each link counts by itself; else the owed steps are taken first. -/
theorem portExpiryCountsSilenceAndSendsIdle : Obligations.PortExpiryCountsSilenceAndSendsIdle := by
  refine ⟨fun s nodes disks => ?_, fun s => ⟨settlePort s, settlePort_run s, fun n => settlePort_owed s (.node n),
    fun d => settlePort_owed s (.disk d), ?_⟩⟩
  · have settled : settlePort s = s := settlePort_of_idle fun l => by
      cases l with
      | node n => exact nodes n
      | disk d => exact disks d
    refine ⟨portExpiry s, rfl, fun n => ?_, fun d => ?_, ?_, ?_, ?_⟩
    · have counted : (portExpiry s).node n = NodeLink.atExpiry s.settings.silenceLimit (s.node n) := by
        rw [portExpiry, settled]
        exact tableMap_getElem ..
      rw [counted, NodeLink.atExpiry_eq _ (nodes n)]
    · have counted : (portExpiry s).diskLink d = DiskLink.atExpiry s.settings.silenceLimit (s.diskLink d) := by
        rw [portExpiry, settled]
        exact tableMap_getElem ..
      rw [counted, DiskLink.atExpiry_eq _ (disks d)]
    · rw [portExpiry, settled]
      rfl
    · rw [portExpiry, settled]
    · rw [portExpiry, settled]
  · have again : settlePort (settlePort s) = settlePort s := settlePort_of_idle (settlePort_owed s)
    refine congrArg Host.Outcome.next ?_
    rw [portExpiry, portExpiry, again]

end

end Sys2Proof.Machine
end

section
/-! PROOFS. The lending clock (R33, R34, R100, R160, R166; log entry 2). -/

namespace Sys2Proof.Machine

section
variable {s : State}

/-! ## Loans (R34 to R36) -/

theorem loanStep_loan (i : LoanIdx) (s : State) :
    ∃ x : Loan, x.owed = false ∧ (loanStep i s).loan = (s.setLoan i x).loan := by
  unfold loanStep lapseLoan
  dsimp only
  split
  · exact ⟨_, rfl, rfl⟩
  split
  · refine ⟨(s.loanAt i).lapsedNow, rfl, (endLoanWork_frame ..).1.trans ?_⟩
    simp [Loan.lapsedNow]
  split
  · refine ⟨(s.loanAt i).madeDue, rfl, ?_⟩
    simp [Loan.madeDue]
  · exact ⟨_, rfl, rfl⟩

theorem takeLoanStep_idle {i : LoanIdx} (idle : (s.loanAt i).owed = false) : takeLoanStep i s = s := by
  rw [takeLoanStep, idle]
  exact if_neg Bool.false_ne_true

theorem takeLoanStep_owed (i j : LoanIdx) (s : State) :
    ((takeLoanStep i s).loanAt j).owed = if j = i then false else (s.loanAt j).owed := by
  cases owed : (s.loanAt i).owed with
  | true =>
    obtain ⟨x, done, eq⟩ := loanStep_loan i s
    rw [takeLoanStep, if_pos owed, State.loanAt, eq, ← State.loanAt, State.setLoan_loanAt_eq]
    split
    · exact done
    · rfl
  | false =>
    rw [takeLoanStep_idle owed]
    split
    · next same => rw [same, owed]
    · rfl

/-- The two commands of a loan's step are one step. -/
theorem takeLapse_takeDue (i : LoanIdx) (s : State) : takeLapse i (takeDue i s) = takeLoanStep i s := by
  by_cases term : ((s.loanAt i).ages && (s.loanAt i).atTerm) = true
  · rw [takeDue, if_pos term, takeLapse, if_pos term]
  · have done : takeLoanStep i (takeLoanStep i s) = takeLoanStep i s :=
      takeLoanStep_idle (by rw [takeLoanStep_owed, if_pos rfl])
    rw [takeDue, if_neg term, takeLapse, done, ite_self]

/-! ## Locks, timer and tally period (R160, R166, R100) -/

theorem lockStep_locks (k : LockIdx) (s : State) :
    ∃ x : Lock, x.owed = false ∧ (lockStep k s).lock = (s.setLock k x).lock := by
  unfold lockStep
  dsimp only
  split
  · exact ⟨_, rfl, rfl⟩
  split
  · refine ⟨{ s.lockAt k with state := .free, age := (s.lockAt k).age + 1, owed := false }, rfl, ?_⟩
    simp
  · exact ⟨_, rfl, rfl⟩

theorem takeLockStep_idle {k : LockIdx} (idle : (s.lockAt k).owed = false) : takeLockStep k s = s := by
  rw [takeLockStep, idle]
  exact if_neg Bool.false_ne_true

theorem takeLockStep_owed (k l : LockIdx) (s : State) :
    ((takeLockStep k s).lockAt l).owed = if l = k then false else (s.lockAt l).owed := by
  cases owed : (s.lockAt k).owed with
  | true =>
    obtain ⟨x, done, eq⟩ := lockStep_locks k s
    rw [takeLockStep, if_pos owed, State.lockAt, eq, ← State.lockAt, State.setLock_lockAt_eq]
    split
    · exact done
    · rfl
  | false =>
    rw [takeLockStep_idle owed]
    split
    · next same => rw [same, owed]
    · rfl

theorem takeTimer_idle (idle : s.lock.timerOwed = false) : takeTimer s = s := by
  rw [takeTimer, idle]
  exact if_neg Bool.false_ne_true

theorem timerStep_lock (s : State) :
    (timerStep s).lock.locks = s.lock.locks ∧ (timerStep s).lock.timerOwed = false := by
  unfold timerStep
  dsimp only
  split
  · exact ⟨rfl, rfl⟩
  split
  · rw [handOff_lock]
    exact ⟨rfl, rfl⟩
  · exact ⟨rfl, rfl⟩

theorem takeTimer_lock (s : State) :
    (takeTimer s).lock.locks = s.lock.locks ∧ (takeTimer s).lock.timerOwed = false := by
  cases owed : s.lock.timerOwed with
  | true =>
    rw [takeTimer, if_pos owed]
    exact timerStep_lock s
  | false =>
    rw [takeTimer_idle owed]
    exact ⟨rfl, owed⟩

theorem takeTally_idle (idle : s.meter.periodOwed = false) : takeTally s = s := by
  rw [takeTally, idle]
  exact if_neg Bool.false_ne_true

theorem takeTally_meter (s : State) : (takeTally s).meter.periodOwed = false := by
  cases owed : s.meter.periodOwed with
  | true =>
    rw [takeTally, if_pos owed, tallyStep]
    dsimp only
    split
    · rw [(raiseFlag_frame ..).2.2.2.1]
    · rfl
  | false =>
    rw [takeTally_idle owed]
    exact owed

/-! ## The steps that an expiry takes first -/

/-- Every step of loans, then of locks. -/
def settledLoans (s : State) : State := (List.finRange 512).foldl (fun s i => takeLoanStep i s) s

def settledLocks (s : State) : State := (List.finRange 64).foldl (fun s k => takeLockStep k s) s

theorem settleLending_eq (s : State) : settleLending s = takeTally (takeTimer (settledLocks (settledLoans s))) := by
  have loans : (tableFilter s.loan.loans (·.owed)).foldl (fun s i => takeLoanStep i s) s = settledLoans s := by
    rw [tableFilter_eq_filter]
    exact foldl_filter_owed (f := fun s i => takeLoanStep i s) (owed := fun s i => (s.loanAt i).owed)
      (fun _ _ => takeLoanStep_idle) (fun s i j idle => by rw [takeLoanStep_owed, idle, ite_self]) _ fun _ => id
  have locks (s : State) :
      (tableFilter s.lock.locks (·.owed)).foldl (fun s k => takeLockStep k s) s = settledLocks s := by
    rw [tableFilter_eq_filter]
    exact foldl_filter_owed (f := fun s k => takeLockStep k s) (owed := fun s k => (s.lockAt k).owed)
      (fun _ _ => takeLockStep_idle) (fun s i j idle => by rw [takeLockStep_owed, idle, ite_self]) _ fun _ => id
  unfold settleLending
  dsimp only
  rw [loans, locks]

theorem settleLending_run (s : State) : runAll lendingSteps s = .next (settleLending s) := by
  have loans := runAll_pairs (a := .loanDue) (b := .lapse) (x := takeDue) (y := takeLapse) (step := takeLoanStep)
    (fun _ _ => rfl) (fun _ _ => rfl) takeLapse_takeDue (List.finRange 512) s
  have locks := runAll_map (g := .holdLimit) (step := takeLockStep) (fun _ _ => rfl) (List.finRange 64) (settledLoans s)
  have first : runAll (((List.finRange 512).flatMap fun i => [.loanDue i, .lapse i]) ++
      (List.finRange 64).map fun k => .holdLimit k) s = .next (settledLocks (settledLoans s)) :=
    (runAll_append loans _).trans locks
  rw [settleLending_eq]
  exact runAll_append first _

theorem settleLending_owed (s : State) :
    (∀ i, ((settleLending s).loanAt i).owed = false) ∧ (∀ k, ((settleLending s).lockAt k).owed = false) ∧
      (settleLending s).lock.timerOwed = false ∧ (settleLending s).meter.periodOwed = false := by
  rw [settleLending_eq]
  obtain ⟨r, r_eq⟩ : ∃ r, r = settledLoans s := ⟨_, rfl⟩
  obtain ⟨u, u_eq⟩ : ∃ u, u = settledLocks r := ⟨_, rfl⟩
  have loans (i : LoanIdx) : (r.loanAt i).owed = false := by
    rw [r_eq]
    exact foldl_not_owed (f := fun s i => takeLoanStep i s) (owed := fun s i => (s.loanAt i).owed)
      (fun s i => by rw [takeLoanStep_owed, if_pos rfl]) (fun s i j idle => by rw [takeLoanStep_owed, idle, ite_self])
      (.inl (List.mem_finRange i))
  have locks (k : LockIdx) : (u.lockAt k).owed = false := by
    rw [u_eq]
    exact foldl_not_owed (f := fun s k => takeLockStep k s) (owed := fun s k => (s.lockAt k).owed)
      (fun s i => by rw [takeLockStep_owed, if_pos rfl]) (fun s i j idle => by rw [takeLockStep_owed, idle, ite_self])
      (.inl (List.mem_finRange k))
  have loan : (takeTally (takeTimer u)).loan = r.loan := by
    rw [u_eq]
    simp [settledLocks]
  have lock : (takeTally (takeTimer u)).lock = (takeTimer u).lock := by simp
  rw [← r_eq, ← u_eq]
  refine ⟨fun i => ?_, fun k => ?_, ?_, takeTally_meter _⟩
  · rw [State.loanAt, loan]
    exact loans i
  · rw [State.lockAt, lock, (takeTimer_lock u).1]
    exact locks k
  · rw [lock, (takeTimer_lock u).2]

theorem settleLending_of_idle (loans : ∀ i, (s.loanAt i).owed = false) (locks : ∀ k, (s.lockAt k).owed = false)
    (timer : s.lock.timerOwed = false) (tally : s.meter.periodOwed = false) : settleLending s = s := by
  have first : settledLoans s = s := foldl_of_idle (f := fun s i => takeLoanStep i s)
    (owed := fun s i => (s.loanAt i).owed) (fun _ _ => takeLoanStep_idle) loans _
  have second : settledLocks s = s := foldl_of_idle (f := fun s k => takeLockStep k s)
    (owed := fun s k => (s.lockAt k).owed) (fun _ _ => takeLockStep_idle) locks _
  rw [settleLending_eq, first, second, takeTimer_idle timer, takeTally_idle tally]

/-! ## What an expiry counts -/

theorem Loan.atExpiry_eq (l : Loan) :
    l.atExpiry =
      if l.inForce = true ∧ 0 < l.term then
        if l.term ≤ l.age + 1 ∨ l.state = .active ∧ 1 ≤ l.term / 2 ∧ l.age + 1 = l.term / 2 then { l with owed := true }
        else { l with age := l.age + 1 }
      else l := by
  simp only [Loan.atExpiry, Loan.ages_iff, Bool.or_eq_true, Loan.atTerm_iff, Loan.atHalf_iff]

theorem Lock.atExpiry_eq (limit : Nat) (l : Lock) :
    l.atExpiry limit =
      if l.state = .held then
        if limit ≤ l.age + 1 then { l with owed := true } else { l with age := l.age + 1 }
      else l := by
  unfold Lock.atExpiry
  cases l.state <;> simp

theorem timerAtExpiry_lock (s : State) :
    (timerAtExpiry s).lock =
      { s.lock with active := (timerAtExpiry s).lock.active, timerOwed := (timerAtExpiry s).lock.timerOwed } := by
  unfold timerAtExpiry
  split
  · rfl
  · split <;> rfl

theorem timerAtExpiry_eq (s : State) : timerAtExpiry s = { s with lock := (timerAtExpiry s).lock } := by
  unfold timerAtExpiry
  split
  · rfl
  · split <;> rfl

theorem tallyAtExpiry_eq (s : State) : tallyAtExpiry s = { s with meter := (tallyAtExpiry s).meter } := by
  unfold tallyAtExpiry
  split <;> rfl

theorem tallyAtExpiry_meter (s : State) :
    (tallyAtExpiry s).meter =
      if s.settings.tallyPeriod ≤ s.meter.periodCount + 1 then
        { s.meter with periodOwed := true, periodRead := s.settings.tallyPeriod }
      else { s.meter with periodCount := s.meter.periodCount + 1, periodRead := s.settings.tallyPeriod } := by
  unfold tallyAtExpiry
  split <;> rfl

/-- Loans and locks have counted an expiry. -/
def countedRecords (s : State) : State :=
  { s with
    loan := { s.loan with loans := tableMap Loan.atExpiry s.loan.loans }
    lock := { s.lock with
      locks := tableMap (Lock.atExpiry s.settings.holdLimit) s.lock.locks, limitRead := s.settings.holdLimit } }

theorem lendingExpiry_of_settled (settled : settleLending s = s) :
    lendingExpiry s =
      { s with
        loan :=
          { loans := tableMap Loan.atExpiry s.loan.loans
            clock := { running := s.settings.lendingReload, expiries := s.loan.clock.expiries + 1 } }
        lock := (timerAtExpiry (countedRecords s)).lock
        meter := (tallyAtExpiry s).meter } := by
  have counted : countLending s = tallyAtExpiry (timerAtExpiry (countedRecords s)) := rfl
  have meter (x : LockBlock) : (tallyAtExpiry { countedRecords s with lock := x }).meter = (tallyAtExpiry s).meter := by
    rw [tallyAtExpiry_meter, tallyAtExpiry_meter]
    rfl
  rw [lendingExpiry, settled, counted, timerAtExpiry_eq, tallyAtExpiry_eq, meter]
  rfl

/-- Settles O24: with nothing owed each record counts by itself; else the owed steps are taken first. -/
theorem lendingExpiryCounts : Obligations.LendingExpiryCounts := by
  refine ⟨fun s loans locks timer tally => ?_, fun s => ?_⟩
  · have expiry := lendingExpiry_of_settled (settleLending_of_idle loans locks timer tally)
    have lock := timerAtExpiry_lock (countedRecords s)
    have active (a : ActiveClaim) (here : s.lock.active = some a) : (timerAtExpiry (countedRecords s)).lock =
        if a.timer ≤ 1 then { (countedRecords s).lock with timerOwed := true }
        else { (countedRecords s).lock with active := some { a with timer := a.timer - 1 } } := by
      have here' : (countedRecords s).lock.active = some a := here
      simp only [timerAtExpiry, here']
      split <;> rfl
    refine ⟨_, congrArg Host.Outcome.next expiry, fun i => ?_, fun k => ?_, fun a here more => ?_, fun a here last => ?_,
      fun idle => ?_, ?_, ?_, ?_, ?_, rfl, rfl⟩
    · rw [← Loan.atExpiry_eq]
      exact tableMap_getElem ..
    · rw [← Lock.atExpiry_eq, State.lockAt]
      dsimp only
      rw [lock]
      exact tableMap_getElem ..
    · dsimp only
      rw [active a here, if_neg (by omega)]
      exact ⟨rfl, timer⟩
    · dsimp only
      rw [active a here, if_pos last]
      exact ⟨here, rfl⟩
    · have same : timerAtExpiry (countedRecords s) = countedRecords s := by
        have idle' : (countedRecords s).lock.active = none := idle
        simp only [timerAtExpiry, idle']
      dsimp only
      rw [same]
      exact ⟨idle, timer⟩
    · dsimp only
      rw [lock]
      rfl
    · dsimp only
      rw [lock]
      rfl
    · dsimp only
      rw [tallyAtExpiry_meter]
      split <;> rfl
    · dsimp only
      rw [lock]
      rfl
  · obtain ⟨loans, locks, timer, tally⟩ := settleLending_owed s
    refine ⟨settleLending s, settleLending_run s, loans, locks, timer, tally, congrArg Host.Outcome.next ?_⟩
    rw [lendingExpiry, lendingExpiry, settleLending_of_idle loans locks timer tally]

end

end Sys2Proof.Machine
end

section
/-! PROOFS. The disk clock (R144 to R146; log entry 2). -/

namespace Sys2Proof.Machine

/-! ## Steps that are owed (R146) -/

/-- A step of the expiry before is owed to stage i, which is at its disk. -/
def State.stageOwes (s : State) (i : StageIdx) : Bool := (s.stage i).atDisk && (s.stage i).owed

section
variable {s : State} {i : StageIdx}

theorem countStage_of_away (away : (s.stage i).atDisk = false) : countStage i s = s := by
  unfold countStage
  dsimp only
  unfold Stage.atDisk at away
  split
  · rfl
  · rfl
  all_goals next state => rw [state] at away; cases away

/-- The stage after a count, where it is at its disk (R145). -/
def Stage.counted (st : Stage) : Stage :=
  if st.state = .sent ∨ st.state = .retrying then
    { st with state := .sent, sendAge := min 255 (st.sendAge + 1), owed := false }
  else { st with acceptAge := min 255 (st.acceptAge + 1), owed := false }

theorem countStage_stages (atDisk : (s.stage i).atDisk = true) :
    (countStage i s).stages = (s.setStage i (s.stage i).counted).stages := by
  unfold countStage Stage.counted
  dsimp only
  unfold Stage.atDisk at atDisk
  split
  · next state => rw [state] at atDisk; cases atDisk
  · next state => rw [state] at atDisk; cases atDisk
  · next state => rw [if_pos (.inl state), ← state]
  · next state =>
    rw [if_pos (.inr state), (produceDisk_frame ..).2.2.2.2.1]
  · next state => rw [if_neg (by simp [state])]
  · next state => rw [if_neg (by simp [state])]

theorem countStage_stage (atDisk : (s.stage i).atDisk = true) (j : StageIdx) :
    (countStage i s).stage j = if j = i then (s.stage i).counted else s.stage j := by
  rw [State.stage, countStage_stages atDisk]
  exact State.setStage_stage_eq ..

theorem takeStageStep_idle (idle : s.stageOwes i = false) : takeStageStep i s = s := by
  unfold takeStageStep
  split
  · next owed =>
    have away : (s.stage i).atDisk = false := by
      rw [State.stageOwes, owed, Bool.and_true] at idle
      exact idle
    have early : (s.stage i).timesOut s.dispatch.timeoutsRead = false := by
      rw [Bool.eq_false_iff]
      intro late
      rw [Stage.atDisk_of_timesOut late] at away
      cases away
    rw [stageStep, early, if_neg Bool.false_ne_true, countStage_of_away away]
  · rfl

theorem Stage.counted_owed (st : Stage) : st.counted.owed = false := by
  unfold Stage.counted
  split <;> rfl

theorem takeStageStep_stage (owes : s.stageOwes i = true) :
    (((takeStageStep i s).stage i).state = .free ∨ ((takeStageStep i s).stage i).owed = false) ∧
      ∀ j, j ≠ i → (takeStageStep i s).stage j = s.stage j ∨
        ((takeStageStep i s).stage j).state = (s.stage j).state ∧ ((takeStageStep i s).stage j).owed = (s.stage j).owed ∨
        ((takeStageStep i s).stage j).state = .free := by
  obtain ⟨atDisk, owed⟩ := Bool.and_eq_true .. ▸ owes
  rw [takeStageStep, if_pos owed, stageStep]
  split
  · have lost := failStage_lost (Stage.atDisk_iff.mp atDisk).1 .timeout (.diskTimeout (s.stage i).disk) 0
    refine ⟨.inl lost.free, fun j other => .inr ?_⟩
    have left : (timeOutStage i s).stage j = _ := lost.work.others j (by simpa using other)
    rw [left]
    obtain ⟨-, -, -, same | ⟨-, eq, -⟩⟩ := (s.stage j).withdrawn_fields (s.onStages (· == i))
    · exact .inl same
    · rw [eq]
      exact .inr rfl
  · simp only [countStage_stage atDisk]
    refine ⟨.inr ?_, fun j other => .inl (if_neg other)⟩
    rw [if_pos trivial, Stage.counted_owed]

theorem stageOwes_of_free (free : (s.stage i).state = .free) : s.stageOwes i = false := by
  simp [State.stageOwes, Stage.atDisk, free]

theorem takeStageStep_own (i : StageIdx) (s : State) : (takeStageStep i s).stageOwes i = false := by
  cases owes : s.stageOwes i with
  | true =>
    rcases (takeStageStep_stage owes).1 with free | done
    · exact stageOwes_of_free free
    · rw [State.stageOwes, done, Bool.and_false]
  | false => rw [takeStageStep_idle owes, owes]

theorem takeStageStep_stay (i j : StageIdx) (s : State) (idle : s.stageOwes j = false) :
    (takeStageStep i s).stageOwes j = false := by
  by_cases same : j = i
  · rw [same]
    exact takeStageStep_own i s
  cases owes : s.stageOwes i with
  | true =>
    rcases (takeStageStep_stage owes).2 j same with eq | ⟨state, owed⟩ | free
    · rw [State.stageOwes, eq]
      exact idle
    · rw [State.stageOwes, owed, Stage.atDisk, state]
      exact idle
    · exact stageOwes_of_free free
  | false => rw [takeStageStep_idle owes, idle]

/-- The two commands of a stage's step are one step. -/
theorem takeResponse_takeRetry (i : StageIdx) (s : State) :
    takeResponseTimeout i (takeRetryTimeout i s) = takeStageStep i s := by
  by_cases sent : (s.stage i).state = .sent ∨ (s.stage i).state = .retrying
  · have done : takeStageStep i (takeStageStep i s) = takeStageStep i s := takeStageStep_idle (takeStageStep_own i s)
    rw [takeRetryTimeout, if_pos sent, takeResponseTimeout, done, ite_self]
  · rw [takeRetryTimeout, if_neg sent, takeResponseTimeout]
    by_cases accepted : (s.stage i).state = .accepted ∨ (s.stage i).state = .streaming
    · rw [if_pos accepted]
    · have away : s.stageOwes i = false := by
        rw [State.stageOwes]
        cases state : (s.stage i).state <;> simp [Stage.atDisk, state] at sent accepted ⊢
      rw [if_neg accepted, takeStageStep_idle away]

theorem settleDisk_eq (s : State) : settleDisk s = (List.finRange 256).foldl (fun s i => takeStageStep i s) s := by
  rw [settleDisk, tableFilter_eq_filter]
  refine foldl_filter_owed (f := fun s i => takeStageStep i s) (owed := State.stageOwes)
    (fun _ _ => takeStageStep_idle) (fun s i j => takeStageStep_stay i j s) _ fun j not => ?_
  rw [State.stageOwes, show (s.stage j).owed = false from not, Bool.and_false]

theorem settleDisk_run (s : State) : runAll diskSteps s = .next (settleDisk s) := by
  rw [settleDisk_eq]
  exact runAll_pairs (a := .retryTimeout) (b := .responseTimeout) (x := takeRetryTimeout) (y := takeResponseTimeout)
    (step := takeStageStep) (fun _ _ => rfl) (fun _ _ => rfl) takeResponse_takeRetry (List.finRange 256) s

theorem settleDisk_owes (s : State) (i : StageIdx) : (settleDisk s).stageOwes i = false := by
  rw [settleDisk_eq]
  exact foldl_not_owed (f := fun s i => takeStageStep i s) (owed := State.stageOwes) (fun s i => takeStageStep_own i s)
    (fun s i j => takeStageStep_stay i j s) (.inl (List.mem_finRange i))

theorem settleDisk_of_idle (idle : ∀ i, s.stageOwes i = false) : settleDisk s = s := by
  rw [settleDisk_eq]
  exact foldl_of_idle (f := fun s i => takeStageStep i s) (owed := State.stageOwes) (fun _ _ => takeStageStep_idle) idle _

theorem stageOwes_iff : s.stageOwes i = false ↔ ((s.stage i).atDisk = true → (s.stage i).owed = false) := by
  rw [State.stageOwes]
  cases (s.stage i).atDisk <;> simp

/-! ## What an expiry counts and sends again (R145) -/

/-- A stage at its disk after an expiry that reads these timeouts. -/
def Stage.afterExpiry (x : Timeouts) (st : Stage) : Stage :=
  if st.timesOut x = true then { st with owed := true } else st.counted

/-- The expiry sends the stage's command to disk d again. -/
def Stage.resentTo (x : Timeouts) (d : DiskPort) (st : Stage) : Bool :=
  st.state == .retrying && st.disk == d && !st.timesOut x

theorem stageAtExpiry_stage (atDisk : (s.stage i).atDisk = true) (j : StageIdx) :
    (stageAtExpiry i s).stage j = if j = i then (s.stage i).afterExpiry s.settings.timeouts else s.stage j := by
  unfold stageAtExpiry Stage.afterExpiry
  split
  · exact State.setStage_stage_eq ..
  · exact countStage_stage atDisk j

theorem produceDisk_diskLink (d : DiskPort) (f : DiskFrame) (s : State) (e : DiskPort) :
    (produceDisk d f s).diskLink e =
      if e = d then { s.diskLink d with out := (s.diskLink d).out ++ [f], produced := true } else s.diskLink e :=
  State.setDiskLink_diskLink_eq ..

theorem stageAtExpiry_diskLink (i : StageIdx) (s : State) (d : DiskPort) :
    (stageAtExpiry i s).diskLink d =
      if (s.stage i).resentTo s.settings.timeouts d = true then
        { s.diskLink d with out := (s.diskLink d).out ++ [(s.stage i).command], produced := true }
      else s.diskLink d := by
  unfold stageAtExpiry
  cases late : (s.stage i).timesOut s.settings.timeouts with
  | true =>
    rw [if_pos rfl, if_neg (by simp [Stage.resentTo, late])]
    rfl
  | false =>
    rw [if_neg Bool.false_ne_true]
    have quiet (other : (s.stage i).state ≠ .retrying) : ¬((s.stage i).resentTo s.settings.timeouts d = true) := by
      simp [Stage.resentTo, other]
    unfold countStage
    dsimp only
    split
    · next state => rw [if_neg (quiet (by simp [state]))]
    · next state => rw [if_neg (quiet (by simp [state]))]
    · next state =>
      rw [if_neg (quiet (by simp [state]))]
      rfl
    · next state =>
      rw [produceDisk_diskLink]
      have resent : (s.stage i).resentTo s.settings.timeouts d = true ↔ d = (s.stage i).disk := by
        simp only [Stage.resentTo, state, late, beq_self_eq_true, Bool.true_and, Bool.not_false, Bool.and_true, beq_iff_eq]
        exact eq_comm
      simp only [resent]
      split
      · next same => rw [same]; rfl
      · rfl
    · next state =>
      rw [if_neg (quiet (by simp [state]))]
      rfl
    · next state =>
      rw [if_neg (quiet (by simp [state]))]
      rfl

theorem stageAtExpiry_settings (i : StageIdx) (s : State) : (stageAtExpiry i s).settings = s.settings := by
  rw [State.settings, State.settings]
  simp

theorem stageAtExpiry_other {j : StageIdx} (other : j ≠ i) : (stageAtExpiry i s).stage j = s.stage j := by
  cases atDisk : (s.stage i).atDisk with
  | true => rw [stageAtExpiry_stage atDisk, if_neg other]
  | false =>
    have early : (s.stage i).timesOut s.settings.timeouts = false := by
      rw [Bool.eq_false_iff]
      intro late
      rw [Stage.atDisk_of_timesOut late] at atDisk
      cases atDisk
    rw [stageAtExpiry, early, if_neg Bool.false_ne_true, countStage_of_away atDisk]

/-- The stages of a list, each once, count in turn. -/
theorem stagesAtExpiry_stage {l : List StageIdx} (once : l.Nodup) (atDisk : ∀ i ∈ l, (s.stage i).atDisk = true)
    (j : StageIdx) :
    (l.foldl (fun s i => stageAtExpiry i s) s).stage j =
      if j ∈ l then (s.stage j).afterExpiry s.settings.timeouts else s.stage j := by
  induction l generalizing s with
  | nil => rfl
  | cons i l ih =>
    obtain ⟨fresh, once⟩ := List.nodup_cons.mp once
    have kept {k : StageIdx} (mem : k ∈ l) : (stageAtExpiry i s).stage k = s.stage k :=
      stageAtExpiry_other fun same => fresh (same ▸ mem)
    rw [List.foldl_cons, ih (s := stageAtExpiry i s) once fun k mem => by
      rw [kept mem]
      exact atDisk k (List.mem_cons_of_mem i mem), stageAtExpiry_settings]
    by_cases here : j = i
    · subst here
      rw [if_neg fresh, if_pos List.mem_cons_self, stageAtExpiry_stage (atDisk j List.mem_cons_self), if_pos rfl]
    · simp only [List.mem_cons, here, false_or, stageAtExpiry_other here]

/-- The stages of a list, each once, are sent again in its order. -/
theorem stagesAtExpiry_diskLink {l : List StageIdx} (once : l.Nodup) (d : DiskPort) :
    (l.foldl (fun s i => stageAtExpiry i s) s).diskLink d =
      { s.diskLink d with
        out := (s.diskLink d).out ++
          (l.filter fun i => (s.stage i).resentTo s.settings.timeouts d).map fun i => (s.stage i).command
        produced := (s.diskLink d).produced ||
          !(l.filter fun i => (s.stage i).resentTo s.settings.timeouts d).isEmpty } := by
  induction l generalizing s with
  | nil => simp
  | cons i l ih =>
    obtain ⟨fresh, once⟩ := List.nodup_cons.mp once
    have kept {k : StageIdx} (mem : k ∈ l) : (stageAtExpiry i s).stage k = s.stage k :=
      stageAtExpiry_other fun same => fresh (same ▸ mem)
    have same : (l.filter fun k => ((stageAtExpiry i s).stage k).resentTo s.settings.timeouts d) =
        l.filter fun k => (s.stage k).resentTo s.settings.timeouts d :=
      List.filter_congr fun k mem => by rw [kept mem]
    have commands : (l.filter fun k => (s.stage k).resentTo s.settings.timeouts d).map
        (fun k => ((stageAtExpiry i s).stage k).command) =
        (l.filter fun k => (s.stage k).resentTo s.settings.timeouts d).map fun k => (s.stage k).command :=
      List.map_congr_left fun k mem => by rw [kept (List.mem_of_mem_filter mem)]
    rw [List.foldl_cons, ih once, stageAtExpiry_settings, same, commands, stageAtExpiry_diskLink, List.filter_cons]
    by_cases resent : (s.stage i).resentTo s.settings.timeouts d = true
    · rw [if_pos resent, if_pos resent]
      simp
    · rw [if_neg resent, if_neg resent]

/-- Nothing changed but stages and disk links. -/
def OnDisks (s t : State) : Prop := t = { s with link := { s.link with disks := t.link.disks }, stages := t.stages }

theorem countStage_onDisks (i : StageIdx) (s : State) : OnDisks s (countStage i s) := by
  unfold countStage
  dsimp only
  split <;> rfl

theorem stageAtExpiry_onDisks (i : StageIdx) (s : State) : OnDisks s (stageAtExpiry i s) := by
  unfold stageAtExpiry
  split
  · rfl
  · exact countStage_onDisks ..

theorem stagesAtExpiry_onDisks (l : List StageIdx) (s : State) :
    OnDisks s (l.foldl (fun s i => stageAtExpiry i s) s) := by
  refine foldl_frame (R := OnDisks) (fun _ => rfl) (fun s t u first second => ?_) (fun s i => stageAtExpiry_onDisks i s) l s
  unfold OnDisks at first second ⊢
  rw [second, first]

/-- A stage after an expiry, by its state. -/
theorem Stage.afterExpiry_eq {st : Stage} (x : Settings) (idle : st.owed = false) (atDisk : st.atDisk = true) :
    st.afterExpiry x.timeouts =
      if st.state = .sent ∨ st.state = .retrying then
        if x.timeoutsDisabled = false ∧ max 1 x.retryTimeout ≤ min 255 (st.sendAge + 1) then { st with owed := true }
        else { st with state := .sent, sendAge := min 255 (st.sendAge + 1) }
      else if st.state = .accepted ∨ st.state = .streaming then
        if x.timeoutsDisabled = false ∧ max 1 x.responseTimeout ≤ min 255 (st.acceptAge + 1) then { st with owed := true }
        else { st with acceptAge := min 255 (st.acceptAge + 1) }
      else st := by
  have aged : st.counted =
      if st.state = .sent ∨ st.state = .retrying then { st with state := .sent, sendAge := min 255 (st.sendAge + 1) }
      else { st with acceptAge := min 255 (st.acceptAge + 1) } := by
    rw [Stage.counted, ← idle]
  have late : st.timesOut x.timeouts = true ↔ x.timeoutsDisabled = false ∧
      ((st.state = .sent ∨ st.state = .retrying) ∧ max 1 x.retryTimeout ≤ min 255 (st.sendAge + 1) ∨
        (st.state = .accepted ∨ st.state = .streaming) ∧ max 1 x.responseTimeout ≤ min 255 (st.acceptAge + 1)) := by
    cases disabled : x.timeoutsDisabled with
    | true => simp [Stage.timesOut, Settings.timeouts, disabled]
    | false => exact (Stage.timesOut_iff (x := x.timeouts) disabled).trans (and_iff_right rfl).symm
  rw [Stage.afterExpiry, aged]
  simp only [late]
  by_cases sent : st.state = .sent ∨ st.state = .retrying
  · have other : ¬(st.state = .accepted ∨ st.state = .streaming) := by
      rcases sent with h | h <;> simp [h]
    simp only [sent, other, if_true, true_and, false_and, or_false]
  · have accepted : st.state = .accepted ∨ st.state = .streaming := by
      cases state : st.state <;> simp [Stage.atDisk, state] at sent atDisk ⊢
    simp only [sent, accepted, if_true, if_false, true_and, false_and, false_or]

/-- Settles O46: with nothing owed each stage counts by itself; else the owed steps are taken first. -/
theorem diskExpiryAgesAndResends : Obligations.DiskExpiryAgesAndResends := by
  refine ⟨fun s idle => ?_, fun s => ⟨settleDisk s, settleDisk_run s, fun i => stageOwes_iff.mp (settleDisk_owes s i),
    ?_⟩⟩
  · have settled : settleDisk s = s := settleDisk_of_idle fun i => stageOwes_iff.mpr (idle i)
    have once : s.stagesAtDisk.Nodup := by
      rw [State.stagesAtDisk, tableFilter_eq_filter]
      exact (List.nodup_finRange 256).filter _
    have mem (i : StageIdx) : i ∈ s.stagesAtDisk ↔ (s.stage i).atDisk = true := mem_tableFilter
    have stage := stagesAtExpiry_stage once fun i => (mem i).mp
    have diskLink := stagesAtExpiry_diskLink (s := s) once
    have onDisks := stagesAtExpiry_onDisks s.stagesAtDisk s
    have expiry : diskExpiry s =
        let u := s.stagesAtDisk.foldl (fun s i => stageAtExpiry i s) s
        { u with dispatch := { u.dispatch with
            clock := { running := u.settings.scale, expiries := u.dispatch.clock.expiries + 1 }
            timeoutsRead := u.settings.timeouts } } := by
      rw [diskExpiry, settled]
    dsimp only at expiry
    generalize s.stagesAtDisk.foldl (fun s i => stageAtExpiry i s) s = u at stage diskLink onDisks expiry
    have settings : u.settings = s.settings := by rw [onDisks]; rfl
    have dispatch : u.dispatch = s.dispatch := by rw [onDisks]
    rw [settings, dispatch] at expiry
    refine ⟨_, congrArg Host.Outcome.next expiry, fun i => ?_, fun d => ?_, rfl, ?_⟩
    · refine (stage i).trans ?_
      cases atDisk : (s.stage i).atDisk with
      | true => rw [if_pos ((mem i).mpr atDisk), Stage.afterExpiry_eq _ (idle i atDisk) atDisk]
      | false =>
        rw [if_neg (by rw [mem, atDisk]; exact Bool.false_ne_true)]
        cases state : (s.stage i).state <;> simp [Stage.atDisk, state] at atDisk ⊢
    · refine (diskLink d).trans ?_
      have resent : (s.stagesAtDisk.filter fun i => (s.stage i).resentTo s.settings.timeouts d) =
          (List.finRange 256).filter fun i =>
            (s.stage i).state == .retrying && (s.stage i).disk == d && !(s.stage i).timesOut s.settings.timeouts := by
        rw [State.stagesAtDisk, tableFilter_eq_filter, List.filter_filter]
        refine List.filter_congr fun i _ => ?_
        change ((s.stage i).resentTo s.settings.timeouts d && (s.stage i).atDisk) = (s.stage i).resentTo s.settings.timeouts d
        unfold Stage.resentTo Stage.atDisk
        cases (s.stage i).state <;> simp
      rw [resent]
    · conv_lhs => rw [onDisks]
  · have again : settleDisk (settleDisk s) = settleDisk s := settleDisk_of_idle (settleDisk_owes s)
    refine congrArg Host.Outcome.next ?_
    rw [diskExpiry, diskExpiry, again]

end

end Sys2Proof.Machine
end

section
/-! PROOFS. Decoding: the bytes of a good frame give back its command (R50, R51, R187 to R189, 10.1 to 10.5). -/

namespace Sys2Proof.Machine

section Fields

theorem field_zero_one (b : Byte) (bs : List Byte) : field (b :: bs) 0 1 = b.toNat := by simp [field, ofBytes]

theorem field_cons (b : Byte) (bs : List Byte) (off w : Nat) : field (b :: bs) (off + 1) w = field bs off w := rfl

theorem toNat_lt_bytes {w : Nat} (v : BitVec (8 * w)) : v.toNat < 256 ^ w := by
  have bits : 2 ^ (8 * w) = 256 ^ w := Nat.pow_mul ..
  exact bits ▸ v.isLt

/-- A number that stands at the front of a layout. -/
theorem field_beBytes (w v : Nat) (bs : List Byte) (fits : v < 256 ^ w) : field (beBytes w v ++ bs) 0 w = v := by
  rw [field, List.drop_zero, List.take_left' (beBytes_length w v), ofBytes_beBytes, Nat.mod_eq_of_lt fits]

/-- A field behind a number at the front. -/
theorem field_skip {w off : Nat} (v u : Nat) (bs : List Byte) (behind : w ≤ off) :
    field (beBytes w v ++ bs) off u = field bs (off - w) u := by
  rw [field, field, ← Nat.add_sub_cancel' behind, ← List.drop_drop, List.drop_left' (beBytes_length w v),
    Nat.add_sub_cancel_left]

/-- A field of 16 bits at the front of a layout. -/
theorem ofNat_field_word (v : BitVec 16) (bs : List Byte) :
    BitVec.ofNat 16 (field (beBytes 2 v.toNat ++ bs) 0 2) = v := by
  rw [field_beBytes 2 _ _ (toNat_lt_bytes (w := 2) v), BitVec.ofNat_toNat, BitVec.setWidth_eq]

/-- A field of 32 bits at the front of a layout. -/
theorem ofNat_field_long (v : BitVec 32) (bs : List Byte) :
    BitVec.ofNat 32 (field (beBytes 4 v.toNat ++ bs) 0 4) = v := by
  rw [field_beBytes 4 _ _ (toNat_lt_bytes (w := 4) v), BitVec.ofNat_toNat, BitVec.setWidth_eq]

theorem ofNat_field_byte (v : Byte) (bs : List Byte) : BitVec.ofNat 8 (field (v :: bs) 0 1) = v := by
  rw [field_zero_one, BitVec.ofNat_toNat, BitVec.setWidth_eq]

theorem field_volume (v : Volume) (bs : List Byte) : Fin.ofNat 256 (field (BitVec.ofNat 8 v.val :: bs) 0 1) = v := by
  rw [field_zero_one, BitVec.toNat_ofNat]
  exact Fin.ext (by simp)

end Fields

section Blocks

theorem blockOfBytes_blockBytes (b : Block) : blockOfBytes (blockBytes b) = b := by
  rw [blockOfBytes, blockBytes, ofBytes_beBytes, Nat.mod_eq_of_lt (toNat_lt_bytes (w := 4096) b),
    BitVec.ofNat_toNat, BitVec.setWidth_eq]

/-- Fewer bytes than a block make none. -/
theorem blocksOfBytes_of_lt {bs : List Byte} (short : bs.length < 4096) : blocksOfBytes bs = [] := by
  rw [blocksOfBytes, Nat.div_eq_of_lt short]
  rfl

theorem blocksOfBytes_cons (b : Block) (bs : List Byte) : blocksOfBytes (blockBytes b ++ bs) = b :: blocksOfBytes bs := by
  have count : (blockBytes b ++ bs).length / 4096 = bs.length / 4096 + 1 := by
    rw [List.length_append, blockBytes_length, Nat.add_comm, Nat.add_div_right _ (by omega)]
  have later (k : Nat) : (blockBytes b ++ bs).drop (4096 * (k + 1)) = bs.drop (4096 * k) := by
    rw [Nat.mul_succ, Nat.add_comm, ← List.drop_drop, List.drop_left' (blockBytes_length b)]
  rw [blocksOfBytes, count, List.range_succ_eq_map, List.map_cons, List.map_map, Nat.mul_zero, List.drop_zero,
    List.take_left' (blockBytes_length b), blockOfBytes_blockBytes, blocksOfBytes]
  refine congrArg (b :: ·) (List.map_congr_left fun k _ => ?_)
  rw [Function.comp_apply, Nat.succ_eq_add_one, later]

/-- The whole blocks of a REQUEST are found again before the bytes of an incomplete one (R189). -/
theorem blocksOfBytes_blocks {p : Nat} (blocks : List Block) (incomplete : p < 4096) :
    blocksOfBytes ((blocks.map blockBytes).flatten ++ beBytes p 0) = blocks := by
  induction blocks with
  | nil =>
    refine blocksOfBytes_of_lt ?_
    rwa [List.map_nil, List.flatten_nil, List.nil_append, beBytes_length]
  | cons b blocks ih => rw [List.map_cons, List.flatten_cons, List.append_assoc, blocksOfBytes_cons, ih]

/-- A flag image's bytes stand least significant byte first (10.3). -/
theorem reverse_littleEndian (w v : Nat) :
    ((List.range w).map fun k => BitVec.ofNat 8 (v >>> (8 * k))).reverse = beBytes w v := by
  induction w with
  | zero => rfl
  | succ w ih => rw [List.range_succ, List.map_append, List.reverse_append, ih]; rfl

theorem flagImageOfBytes_flagImageBytes (f : FlagImage) : flagImageOfBytes (flagImageBytes f) = f := by
  have fits : f.toNat < 256 ^ 17 := f.isLt.trans (by decide)
  rw [flagImageOfBytes, flagImageBytes, reverse_littleEndian, ofBytes_beBytes, Nat.mod_eq_of_lt fits,
    BitVec.ofNat_toNat, BitVec.setWidth_eq]

end Blocks

section Checks

/-- A frame with its check behind it is a good frame of its body (R188). -/
theorem commandOfFrame_withCheck (l : Link) (body : List Byte) :
    commandOfFrame l (withCheck body) = goodCommand l body := by
  have checkLength : (withCheck body).length - 4 = body.length := by
    rw [withCheck, List.length_append, beBytes_length, Nat.add_sub_cancel]
  have front : (withCheck body).take body.length = body := List.take_left
  have back : (withCheck body).drop body.length = beBytes 4 (frameCheck body).toNat := List.drop_left
  have passes : checkPasses (withCheck body) = true := by
    rw [checkPasses, checkLength, front, back, ofBytes_beBytes,
      Nat.mod_eq_of_lt (toNat_lt_bytes (w := 4) (frameCheck body))]
    simp [withCheck]
  rw [commandOfFrame, if_pos passes, checkLength, front]

end Checks

section Unknown

variable {len : Nat} {b : List Byte}

theorem nodeCommand_of_none (n : NodePort) (unknown : nodeFixedLength (field b 0 1) = none) :
    nodeCommand n b = .unknownKindFrame (.node n) := by simp only [nodeCommand, unknown]

theorem nodeCommand_of_short (n : NodePort) (known : nodeFixedLength (field b 0 1) = some len) (short : b.length < len) :
    nodeCommand n b = .unknownKindFrame (.node n) := by simp only [nodeCommand, known, if_pos short]

theorem diskCommand_of_none (d : DiskPort) (unknown : diskFixedLength (field b 0 1) = none) :
    diskCommand d b = .unknownKindFrame (.disk d) := by simp only [diskCommand, unknown]

theorem diskCommand_of_short (d : DiskPort) (known : diskFixedLength (field b 0 1) = some len) (short : b.length < len) :
    diskCommand d b = .unknownKindFrame (.disk d) := by simp only [diskCommand, known, if_pos short]

/-- The kinds of node frames are 20h to 23h (10.1). -/
theorem nodeFixedLength_eq_none {kind : Nat} (outside : kind < 0x20 ∨ 0x23 < kind) : nodeFixedLength kind = none := by
  unfold nodeFixedLength
  split
  case h_5 => rfl
  all_goals omega

/-- The kinds of frames from a disk are 60h to 67h (10.1). -/
theorem diskFixedLength_eq_none {kind : Nat} (outside : kind < 0x60 ∨ 0x67 < kind) : diskFixedLength kind = none := by
  unfold diskFixedLength
  split
  case h_9 => rfl
  all_goals omega

theorem goodCommand_nil (l : Link) : goodCommand l [] = .unknownKindFrame l := by
  cases l with
  | node n => exact nodeCommand_of_none n (b := []) rfl
  | disk d => exact diskCommand_of_none d (b := []) rfl

/-- A node frame that is dropped for its kind or its length (R50, R189). -/
theorem nodeCommand_dropped (n : NodePort) (kind : Byte) (rest : List Byte)
    (dropped : kind.toNat < 0x20 ∨ 0x23 < kind.toNat ∨ kind = 0x21 ∧ rest.length + 1 < 12 ∨
      kind = 0x22 ∧ rest.length + 1 < 2 ∨ kind = 0x23 ∧ rest.length + 1 < 4) :
    nodeCommand n (kind :: rest) = .unknownKindFrame (.node n) := by
  rcases dropped with low | high | ⟨rfl, short⟩ | ⟨rfl, short⟩ | ⟨rfl, short⟩
  · exact nodeCommand_of_none n (by rw [field_zero_one, nodeFixedLength_eq_none (.inl low)])
  · exact nodeCommand_of_none n (by rw [field_zero_one, nodeFixedLength_eq_none (.inr high)])
  · exact nodeCommand_of_short n (by rw [field_zero_one]; rfl) short
  · exact nodeCommand_of_short n (by rw [field_zero_one]; rfl) short
  · exact nodeCommand_of_short n (by rw [field_zero_one]; rfl) short

/-- A frame from a disk that is dropped for its kind or its length (R51, R189). -/
theorem diskCommand_dropped (d : DiskPort) (kind : Byte) (rest : List Byte)
    (dropped : kind.toNat < 0x60 ∨ 0x67 < kind.toNat ∨ kind = 0x61 ∧ rest.length + 1 < 8 ∨
      (kind = 0x62 ∨ kind = 0x63 ∨ kind = 0x65) ∧ rest.length + 1 < 4 ∨ kind = 0x64 ∧ rest.length + 1 < 4100) :
    diskCommand d (kind :: rest) = .unknownKindFrame (.disk d) := by
  rcases dropped with low | high | ⟨rfl, short⟩ | ⟨rfl | rfl | rfl, short⟩ | ⟨rfl, short⟩
  · exact diskCommand_of_none d (by rw [field_zero_one, diskFixedLength_eq_none (.inl low)])
  · exact diskCommand_of_none d (by rw [field_zero_one, diskFixedLength_eq_none (.inr high)])
  · exact diskCommand_of_short d (by rw [field_zero_one]; rfl) short
  · exact diskCommand_of_short d (by rw [field_zero_one]; rfl) short
  · exact diskCommand_of_short d (by rw [field_zero_one]; rfl) short
  · exact diskCommand_of_short d (by rw [field_zero_one]; rfl) short
  · exact diskCommand_of_short d (by rw [field_zero_one]; rfl) short

end Unknown

end Sys2Proof.Machine
end

section
/-! PROOFS. Decoding: the command of each frame's bytes, and behind them bytes that are ignored (10.1 to 10.5). -/

namespace Sys2Proof.Machine

section NodeFrames

variable {n : NodePort}

theorem nodeCommand_idle (trailing : List Byte) : nodeCommand n (0x20 :: trailing) = .idle n := rfl

theorem nodeCommand_renew (v : Volume) (trailing : List Byte) :
    nodeCommand n (0x22 :: BitVec.ofNat 8 v.val :: trailing) = .renew n v := by
  have volume : Fin.ofNat 256 (field (0x22 :: BitVec.ofNat 8 v.val :: trailing) 1 1) = v := field_volume v trailing
  have long : ¬(0x22 :: BitVec.ofNat 8 v.val :: trailing).length < 2 := by simp
  have known : nodeCommand n (0x22 :: BitVec.ofNat 8 v.val :: trailing) =
      if (0x22 :: BitVec.ofNat 8 v.val :: trailing).length < 2 then .unknownKindFrame (.node n)
      else .renew n (Fin.ofNat 256 (field (0x22 :: BitVec.ofNat 8 v.val :: trailing) 1 1)) := rfl
  rw [known, if_neg long, volume]

theorem requestBody_eq (f : RequestFrame) :
    requestBody f = 0x21 :: f.kind :: (beBytes 2 f.tag.toNat ++ (BitVec.ofNat 8 f.volume.val :: f.hint :: f.length :: 0 ::
      (beBytes 4 f.offset.toNat ++ ((f.blocks.map blockBytes).flatten ++ beBytes f.partialBytes 0)))) := by
  simp [requestBody, beBytes_one]

theorem requestBody_length (f : RequestFrame) :
    (requestBody f).length = 12 + (4096 * f.blocks.length + f.partialBytes) := by
  simp only [requestBody_eq, List.length_cons, List.length_append, beBytes_length, blocks_length]
  omega

/-- The fields of a REQUEST frame are found again, and no more than its last, incomplete block is left (R189). -/
theorem requestOf_requestBody {f : RequestFrame} (wellFormed : f.wellFormed = true) : requestOf (requestBody f) = f := by
  have incomplete : f.partialBytes < 4096 := of_decide_eq_true wellFormed
  have left : ((requestBody f).length - 12) % 4096 = f.partialBytes := by
    rw [requestBody_length]
    omega
  have carried : (requestBody f).drop 12 = (f.blocks.map blockBytes).flatten ++ beBytes f.partialBytes 0 := by
    rw [requestBody_eq]
    rfl
  rw [requestOf, left, carried, blocksOfBytes_blocks f.blocks incomplete, requestBody_eq]
  simp only [field_cons, field_skip, Nat.reduceLeDiff, Nat.reduceSub, ofNat_field_byte, ofNat_field_word, ofNat_field_long,
    field_volume]

theorem nodeCommand_request {f : RequestFrame} (wellFormed : f.wellFormed = true) :
    nodeCommand n (requestBody f) = .request n f := by
  have kind : field (requestBody f) 0 1 = 0x21 := by rw [requestBody_eq, field_zero_one]; rfl
  have long : ¬(requestBody f).length < 12 := by rw [requestBody_length]; omega
  simp only [nodeCommand, kind, nodeFixedLength, if_neg long, requestOf_requestBody wellFormed]

/-- A MANAGE frame gives the command of its operation and operands, with its tag (R171). -/
theorem nodeCommand_manage {h : ManageHeader} (fresh : h.handedOn = false) (operation : Byte) (operands : List Byte) :
    nodeCommand h.port (manageBody h operation operands) = manageCommand h operation operands := by
  have body : manageBody h operation operands = 0x23 :: operation :: (beBytes 2 h.tag.toNat ++ operands) := by
    simp [manageBody, beBytes_one]
  have long : ¬(manageBody h operation operands).length < 4 := by
    rw [body, List.length_cons, List.length_cons, List.length_append, beBytes_length]
    omega
  have behind : (manageBody h operation operands).drop 4 = operands := by rw [body]; rfl
  have kind : field (manageBody h operation operands) 0 1 = 0x23 := by rw [body, field_zero_one]; rfl
  have header : ManageHeader.mk h.port (BitVec.ofNat 16 (field (manageBody h operation operands) 2 2)) false = h := by
    rw [← fresh, body]
    simp only [field_cons, ofNat_field_word]
  have operationByte : BitVec.ofNat 8 (field (manageBody h operation operands) 1 1) = operation := by
    rw [body, field_cons, ofNat_field_byte]
  simp only [nodeCommand, kind, nodeFixedLength, if_neg long, header, operationByte, behind]

end NodeFrames

section DiskFrames

variable {d : DiskPort}

theorem replyBody_eq (kind second : Nat) (tag : Tag) (trailing : List Byte) :
    replyBody kind second tag ++ trailing =
      BitVec.ofNat 8 kind :: BitVec.ofNat 8 second :: (beBytes 2 tag.toNat ++ trailing) := by
  simp [replyBody, beBytes_one]

theorem replyTag_replyBody (kind second : Nat) (tag : Tag) (trailing : List Byte) :
    replyTag (replyBody kind second tag ++ trailing) = tag := by
  rw [replyTag, replyBody_eq]
  simp only [field_cons, ofNat_field_word]

theorem field_replyBody_kind (kind second : Nat) (tag : Tag) (trailing : List Byte) :
    field (replyBody kind second tag ++ trailing) 0 1 = kind % 256 := by
  rw [replyBody_eq, field_zero_one, BitVec.toNat_ofNat]

theorem field_replyBody_second (kind second : Nat) (tag : Tag) (trailing : List Byte) :
    field (replyBody kind second tag ++ trailing) 1 1 = second % 256 := by
  rw [replyBody_eq, field_cons, field_zero_one, BitVec.toNat_ofNat]

theorem replyBody_length (kind second : Nat) (tag : Tag) (trailing : List Byte) :
    (replyBody kind second tag ++ trailing).length = 4 + trailing.length := by
  rw [replyBody_eq, List.length_cons, List.length_cons, List.length_append, beBytes_length]
  omega

/-- HELLO gives the capacity of its disk (10.5). -/
theorem diskCommand_hello (capacity : BitVec 32) (trailing : List Byte) :
    diskCommand d (beBytes 1 0x61 ++ beBytes 3 0 ++ beBytes 4 capacity.toNat ++ trailing) = .hello d capacity := by
  have body : beBytes 1 0x61 ++ beBytes 3 0 ++ beBytes 4 capacity.toNat ++ trailing =
      0x61 :: (beBytes 3 0 ++ (beBytes 4 capacity.toNat ++ trailing)) := by simp [beBytes_one]
  have long : ¬(beBytes 1 0x61 ++ beBytes 3 0 ++ beBytes 4 capacity.toNat ++ trailing).length < 8 := by
    simp only [List.length_append, beBytes_length]
    omega
  rw [body] at *
  have kind : field (0x61 :: (beBytes 3 0 ++ (beBytes 4 capacity.toNat ++ trailing))) 0 1 = 0x61 := field_zero_one ..
  simp only [diskCommand, kind, diskFixedLength, if_neg long, field_cons, field_skip, Nat.reduceLeDiff,
    Nat.reduceSub, ofNat_field_long]

theorem diskCommand_accept (tag : Tag) (trailing : List Byte) :
    diskCommand d (replyBody 0x62 0 tag ++ trailing) = .accept d tag := by
  have long : ¬4 + trailing.length < 4 := by omega
  simp only [diskCommand, field_replyBody_kind, Nat.reduceMod, diskFixedLength, replyBody_length, if_neg long,
    replyTag_replyBody]

theorem diskCommand_nak (tag : Tag) (trailing : List Byte) :
    diskCommand d (replyBody 0x63 0 tag ++ trailing) = .nak d tag := by
  have long : ¬4 + trailing.length < 4 := by omega
  simp only [diskCommand, field_replyBody_kind, Nat.reduceMod, diskFixedLength, replyBody_length, if_neg long,
    replyTag_replyBody]

/-- A DATA frame gives the index and the block it carries (10.5). -/
theorem diskCommand_data (index : Byte) (tag : Tag) (block : Block) (trailing : List Byte) :
    diskCommand d (replyBody 0x64 index.toNat tag ++ (blockBytes block ++ trailing)) = .diskData d index tag block := by
  have long : ¬4 + (blockBytes block ++ trailing).length < 4100 := by
    rw [List.length_append, blockBytes_length]
    omega
  have carried : ((replyBody 0x64 index.toNat tag ++ (blockBytes block ++ trailing)).drop 4).take 4096 =
      blockBytes block := by
    have front : (replyBody 0x64 index.toNat tag).length = 4 := by simp [replyBody]
    rw [List.drop_left' front, List.take_left' (blockBytes_length block)]
  simp only [diskCommand, field_replyBody_kind, Nat.reduceMod, diskFixedLength, replyBody_length, if_neg long,
    replyTag_replyBody, field_replyBody_second, carried, blockOfBytes_blockBytes]
  rw [Nat.mod_eq_of_lt index.isLt, BitVec.ofNat_toNat, BitVec.setWidth_eq]

/-- A DONE frame by its result (10.5). -/
theorem diskCommand_done (result : Byte) (tag : Tag) (trailing : List Byte) :
    diskCommand d (replyBody 0x65 result.toNat tag ++ trailing) =
      if result = 0 then .diskDoneOk d tag else .diskDoneError d result tag := by
  have long : ¬4 + trailing.length < 4 := by omega
  have code : BitVec.ofNat 8 (result.toNat % 256) = result := by
    rw [Nat.mod_eq_of_lt result.isLt, BitVec.ofNat_toNat, BitVec.setWidth_eq]
  have ok : result.toNat % 256 = 0 ↔ result = 0 := by bv_omega
  simp only [diskCommand, field_replyBody_kind, Nat.reduceMod, diskFixedLength, replyBody_length, if_neg long, doneCommand,
    replyTag_replyBody, field_replyBody_second, code, ok]

end DiskFrames

end Sys2Proof.Machine
end

section
/-! PROOFS. Decoding: the command of each MANAGE operation's bytes, and O13 (R171, R189, 10.3). -/

namespace Sys2Proof.Machine

section Operations

variable {h : ManageHeader}

theorem servable_of {operation : Byte} {operands : List Byte} {count : Nat}
    (known : operandBytes operation.toNat = some count) (complete : count ≤ operands.length)
    (table : operation = 1 ∨ operation = 2 → field operands 0 1 ≤ 13) (kind : operation = 8 → field operands 0 1 ≤ 1) :
    servable operation operands = true := by
  simp only [servable, known, Bool.and_eq_true, Bool.or_eq_true, Bool.not_eq_true', decide_eq_true_eq, Bool.or_eq_false_iff,
    beq_eq_false_iff_ne]
  exact ⟨⟨complete, by tauto⟩, by tauto⟩

theorem manageCommand_of_servable {operation : Byte} {operands : List Byte} (served : servable operation operands = true) :
    manageCommand h operation operands = servedCommand h operation operands := if_pos served

theorem manageCommand_of_not_servable {operation : Byte} {operands : List Byte}
    (unserved : servable operation operands = false) :
    manageCommand h operation operands = .manageUnknownOperation h operation operands := by
  rw [manageCommand, if_neg (by rw [unserved]; decide)]

/-- The operands that name an entry: its table's code, a reserved byte and its index (10.3). -/
def entryOperands (table : Nat) (index : BitVec 16) (rest : List Byte) : List Byte :=
  BitVec.ofNat 8 table :: 0 :: (beBytes 2 index.toNat ++ rest)

theorem field_entryOperands_table {table : Nat} (known : table ≤ 13) (index : BitVec 16) (rest : List Byte) :
    field (entryOperands table index rest) 0 1 = table := by
  rw [entryOperands, field_zero_one, BitVec.toNat_ofNat]
  omega

theorem field_entryOperands_index (table : Nat) (index : BitVec 16) (rest : List Byte) :
    BitVec.ofNat 16 (field (entryOperands table index rest) 2 2) = index := by
  rw [entryOperands, field_cons, field_cons, ofNat_field_word]

theorem entryOperands_length (table : Nat) (index : BitVec 16) (rest : List Byte) :
    4 ≤ (entryOperands table index rest).length := by
  rw [entryOperands, List.length_cons, List.length_cons, List.length_append, beBytes_length]
  omega

theorem manageCommand_read {table : Nat} (known : table ≤ 13) (index : BitVec 16) (rest : List Byte) :
    manageCommand h 1 (entryOperands table index rest) = readCommand h table index (entryOperands table index rest) := by
  have code := field_entryOperands_table known index rest
  have served : servable 1 (entryOperands table index rest) = true :=
    servable_of rfl (entryOperands_length ..) (fun _ => code.symm ▸ known) (fun other => absurd other (by decide))
  have command : servedCommand h 1 (entryOperands table index rest) =
      readCommand h (field (entryOperands table index rest) 0 1)
        (BitVec.ofNat 16 (field (entryOperands table index rest) 2 2)) (entryOperands table index rest) := rfl
  rw [manageCommand_of_servable served, command, code, field_entryOperands_index]

theorem manageCommand_write {table : Nat} (known : table ≤ 13) (index : BitVec 16) (image : List Byte) :
    manageCommand h 2 (entryOperands table index image) = writeCommand h table index (entryOperands table index image) := by
  have code := field_entryOperands_table known index image
  have served : servable 2 (entryOperands table index image) = true :=
    servable_of rfl (entryOperands_length ..) (fun _ => code.symm ▸ known) (fun other => absurd other (by decide))
  have command : servedCommand h 2 (entryOperands table index image) =
      writeCommand h (field (entryOperands table index image) 0 1)
        (BitVec.ofNat 16 (field (entryOperands table index image) 2 2)) (entryOperands table index image) := rfl
  rw [manageCommand_of_servable served, command, code, field_entryOperands_index]

theorem manageCommand_grantLoan (v : Volume) (node mode : Byte) (term : BitVec 16) (trailing : List Byte) :
    manageCommand h 3 (BitVec.ofNat 8 v.val :: node :: mode :: 0 :: (beBytes 2 term.toNat ++ trailing)) =
      .grantLoan h v node mode term := by
  have served : servable 3 (BitVec.ofNat 8 v.val :: node :: mode :: 0 :: (beBytes 2 term.toNat ++ trailing)) = true :=
    servable_of (count := 6) rfl (by simp) (fun other => absurd other (by decide))
      (fun other => absurd other (by decide))
  have operation : (3 : Byte).toNat = 3 := rfl
  simp only [manageCommand_of_servable served, servedCommand, operation, field_volume, field_cons, ofNat_field_byte,
    ofNat_field_word]

theorem manageCommand_revokeLoan (index : BitVec 16) (trailing : List Byte) :
    manageCommand h 4 (beBytes 2 index.toNat ++ trailing) = .revokeLoan h index := by
  have served : servable 4 (beBytes 2 index.toNat ++ trailing) = true :=
    servable_of (count := 2) rfl (by simp) (fun other => absurd other (by decide)) (fun other => absurd other (by decide))
  have operation : (4 : Byte).toNat = 4 := rfl
  simp only [manageCommand_of_servable served, servedCommand, operation, ofNat_field_word]

theorem manageCommand_breakLock (index : BitVec 16) (trailing : List Byte) :
    manageCommand h 5 (beBytes 2 index.toNat ++ trailing) = .breakLock h index := by
  have served : servable 5 (beBytes 2 index.toNat ++ trailing) = true :=
    servable_of (count := 2) rfl (by simp) (fun other => absurd other (by decide)) (fun other => absurd other (by decide))
  have operation : (5 : Byte).toNat = 5 := rfl
  simp only [manageCommand_of_servable served, servedCommand, operation, ofNat_field_word]

theorem manageCommand_clearNotices (selection : FlagImage) (trailing : List Byte) :
    manageCommand h 6 (flagImageBytes selection ++ trailing) = .clearNotices h selection := by
  have served : servable 6 (flagImageBytes selection ++ trailing) = true :=
    servable_of (count := 17) rfl (by rw [List.length_append, flagImageBytes_length]; omega)
      (fun other => absurd other (by decide)) (fun other => absurd other (by decide))
  have operation : (6 : Byte).toNat = 6 := rfl
  simp only [manageCommand_of_servable served, servedCommand, operation, List.take_left' (flagImageBytes_length selection),
    flagImageOfBytes_flagImageBytes]

theorem manageCommand_restartPart (trailing : List Byte) : manageCommand h 7 trailing = .restartPart h :=
  manageCommand_of_servable (servable_of (count := 0) rfl (Nat.zero_le _) (fun other => absurd other (by decide))
    (fun other => absurd other (by decide)))

theorem manageCommand_restartPort {kind : Byte} (known : kind.toNat ≤ 1) (port : Byte) (trailing : List Byte) :
    manageCommand h 8 (kind :: port :: trailing) =
      if kind.toNat = 0 then .restartPortNode h port else .restartPortDisk h port := by
  have served : servable 8 (kind :: port :: trailing) = true :=
    servable_of (count := 2) rfl (by simp) (fun other => absurd other (by decide))
      (fun _ => (field_zero_one kind (port :: trailing)).symm ▸ known)
  have operation : (8 : Byte).toNat = 8 := rfl
  simp only [manageCommand_of_servable served, servedCommand, operation, field_cons, field_zero_one, BitVec.ofNat_toNat,
    BitVec.setWidth_eq]

end Operations

section Frames

variable {h : ManageHeader}

theorem goodCommand_node (n : NodePort) (b : List Byte) : goodCommand (.node n) b = nodeCommand n b := rfl

theorem goodCommand_disk (d : DiskPort) (b : List Byte) : goodCommand (.disk d) b = diskCommand d b := rfl

theorem manageBody_append (operation : Byte) (operands trailing : List Byte) :
    manageBody h operation operands ++ trailing = manageBody h operation (operands ++ trailing) := List.append_assoc ..

/-- A READ ENTRY frame gives the command of its table, with bytes behind it ignored. -/
theorem nodeCommand_read (fresh : h.handedOn = false) {table : Nat} (known : table ≤ 13) (index : BitVec 16)
    (trailing : List Byte) :
    nodeCommand h.port (readBody h table index ++ trailing) =
      readCommand h table index (entryOperands table index trailing) := by
  have operands : beBytes 1 table ++ beBytes 1 0 ++ beBytes 2 index.toNat ++ trailing =
      entryOperands table index trailing := by simp [beBytes_one, entryOperands]
  rw [readBody, manageBody_append, operands, nodeCommand_manage fresh, manageCommand_read known]

/-- A WRITE ENTRY frame gives the command of its table. -/
theorem nodeCommand_write (fresh : h.handedOn = false) {table : Nat} (known : table ≤ 13) (index : BitVec 16)
    (image : List Byte) :
    nodeCommand h.port (writeBody h table index image) = writeCommand h table index (entryOperands table index image) := by
  have operands : beBytes 1 table ++ beBytes 1 0 ++ beBytes 2 index.toNat ++ image = entryOperands table index image := by
    simp [beBytes_one, entryOperands]
  rw [writeBody, operands, nodeCommand_manage fresh, manageCommand_write known]

/-- A MANAGE frame followed by further bytes gives the command of its operands and those bytes. -/
theorem goodCommand_manage (fresh : h.handedOn = false) (operation : Byte) (operands trailing : List Byte) :
    goodCommand (.node h.port) (manageBody h operation operands ++ trailing) =
      manageCommand h operation (operands ++ trailing) := by
  rw [manageBody_append]
  exact nodeCommand_manage fresh operation (operands ++ trailing)

theorem readOnlyCode_le (table : ReadOnlyTable) : readOnlyCode table ≤ 13 := by cases table <;> decide

end Frames

/-- The bytes of a frame that carries a command give it back, also with bytes behind the last field that the command
does not take (R187). -/
theorem goodCommand_of_frameBody {c : Instr} {l : Link} {body trailing : List Byte} (wellFormed : c.wellFormed = true)
    (fresh : ∀ h, headerOf c = some h → h.handedOn = false) (ignored : takesTrailing c = true → trailing = [])
    (carried : frameBody c = some (l, body)) : goodCommand l (body ++ trailing) = c := by
  cases c
  all_goals
    simp only [frameBody, Option.some.injEq, Prod.mk.injEq, reduceCtorEq] at carried
    try obtain ⟨rfl, rfl⟩ := carried
  case idle n => exact nodeCommand_idle trailing
  case request n f =>
    rw [ignored rfl, List.append_nil]
    exact nodeCommand_request wellFormed
  case renew n v => exact nodeCommand_renew v trailing
  case diskIdle | hold | release => rfl
  case hello d capacity => exact diskCommand_hello capacity trailing
  case accept d tag => exact diskCommand_accept tag trailing
  case nak d tag => exact diskCommand_nak tag trailing
  case diskData d index tag block =>
    rw [goodCommand_disk, List.append_assoc, diskCommand_data]
  case diskDoneOk d tag => exact (diskCommand_done 0 tag trailing).trans (if_pos rfl)
  case diskDoneError d result tag =>
    exact (diskCommand_done result tag trailing).trans (if_neg (bne_iff_ne.mp wellFormed))
  case readEntrySettings h i | readEntryPort h i | readEntryDisk h i | readEntryVolume h i | readEntryMap h i |
      readEntryLoan h i | readEntryClassmap h i | readEntryMeter h i | readEntryTally h i | readEntryStage h i |
      readEntryLock h i | readEntryLockout h i | readEntryRequest h i | readEntryNotice h i =>
    rw [goodCommand_node, nodeCommand_read (fresh h rfl)]
    · rfl
    · decide
  case writeEntrySettings h i image | writeEntryPort h i image | writeEntryDisk h i image | writeEntryVolume h i image |
      writeEntryMap h i image | writeEntryClassmap h i image | writeEntryMeter h i image | writeEntryNotice h i image =>
    rw [ignored rfl, List.append_nil, goodCommand_node, nodeCommand_write (fresh h rfl)]
    · rfl
    · decide
  case writeEntryReadOnly h table i image =>
    rw [ignored rfl, List.append_nil, goodCommand_node, nodeCommand_write (fresh h rfl) (readOnlyCode_le table)]
    cases table <;> rfl
  case grantLoan h v node mode term =>
    have operands : beBytes 1 v.val ++ [node] ++ [mode] ++ beBytes 1 0 ++ beBytes 2 term.toNat ++ trailing =
        BitVec.ofNat 8 v.val :: node :: mode :: 0 :: (beBytes 2 term.toNat ++ trailing) := by simp [beBytes_one]
    rw [goodCommand_manage (fresh h rfl), operands, manageCommand_grantLoan]
  case revokeLoan h i => rw [goodCommand_manage (fresh h rfl), manageCommand_revokeLoan]
  case breakLock h i => rw [goodCommand_manage (fresh h rfl), manageCommand_breakLock]
  case clearNotices h selection => rw [goodCommand_manage (fresh h rfl), manageCommand_clearNotices]
  case restartPart h => rw [goodCommand_manage (fresh h rfl), manageCommand_restartPart]
  case restartPortNode h port =>
    exact (goodCommand_manage (fresh h rfl) ..).trans (manageCommand_restartPort (kind := 0) (by decide) port trailing)
  case restartPortDisk h port =>
    exact (goodCommand_manage (fresh h rfl) ..).trans (manageCommand_restartPort (kind := 1) (by decide) port trailing)
  case manageUnknownOperation h operation operands =>
    have unserved : servable operation operands = false := by simpa [Instr.wellFormed] using wellFormed
    rw [goodCommand_manage (fresh h rfl), ignored rfl, List.append_nil, manageCommand_of_not_servable unserved]

/-- Settles O13: a frame with its check is decoded as its body, and each body by the layout of its kind; the bytes
behind a body that takes none are arbitrary. -/
theorem goodFramesGiveTheirCommand : Obligations.GoodFramesGiveTheirCommand := by
  refine ⟨fun c l body wellFormed fresh carried => ?whole,
    fun c l body trailing wellFormed fresh ignoring carried => ?followed, fun l => ?empty, fun n kind rest dropped => ?node,
    fun d kind rest dropped => ?disk⟩
  case whole =>
    have decoded := goodCommand_of_frameBody (trailing := []) wellFormed fresh (fun _ => rfl) carried
    rwa [commandOfFrame_withCheck, ← List.append_nil body]
  case followed =>
    rw [commandOfFrame_withCheck]
    exact goodCommand_of_frameBody wellFormed fresh (fun taking => absurd (ignoring ▸ taking) Bool.false_ne_true) carried
  case empty => rw [commandOfFrame_withCheck, goodCommand_nil]
  case node => exact (commandOfFrame_withCheck ..).trans (nodeCommand_dropped n kind rest dropped)
  case disk => exact (commandOfFrame_withCheck ..).trans (diskCommand_dropped d kind rest dropped)

end Sys2Proof.Machine
end
